-- ==== Sys2Proof/Word.lean ====
section
/-! DEFINITION. The word types of the block, by the widths of spec rules R5, R8, R52, R70 and R72.
The block has no bytes and no addresses (R50, R53): a word is named by what it holds. -/

namespace Sys2Proof

/-- The 24 bits of the reload register and the count (R5 `TIMER_BITS = 24`). -/
abbrev U24 := BitVec 24

/-- The unsigned 32-bit fields and the operand `ARG` (R8, R70). -/
abbrev U32 := BitVec 32

/-- A 32-bit two's complement pattern, read with `BitVec.toInt` (R8, R15 `s32`). -/
abbrev S32 := BitVec 32

/-- The 64 bits of `MS`, of `DEADLINE` and of a response value (R5, R8). -/
abbrev U64 := BitVec 64

/-- A command word: `OP` in bits 39 to 32, `ARG` in bits 31 to 0 (R70). -/
abbrev Word40 := BitVec 40

end Sys2Proof
end

