-- ==== Sys2Proof/Syntax.lean ====
section
/-! DEFINITION. The sixteen commands of spec rule R75, one constructor per row of spec/opcode_table.json.
An operand is the integer the spec says it is (R71): format `U` a natural number, format `S` an integer;
`WellFormed.lean` gives their ranges. A command of format `N` has no operand: its `ARG` is ignored. -/

namespace Sys2Proof

/-- R75: one function of the document is one command. -/
inductive Instr where
  /-- `TMR.START`, R101. -/
  | tmrStart
  /-- `TMR.STOP`, R102. -/
  | tmrStop
  /-- `TMR.SETPERIOD p`, R103. -/
  | tmrSetPeriod (p : Nat)
  /-- `TMR.GETPERIOD`, R104. -/
  | tmrGetPeriod
  /-- `TMR.GETCOUNT`, R105. -/
  | tmrGetCount
  /-- `TMR.IRQON`, R106. -/
  | tmrIrqOn
  /-- `TMR.IRQOFF`, R107. -/
  | tmrIrqOff
  /-- `TMR.CLRFLAG`, R108. -/
  | tmrClrFlag
  /-- `TMR.FLAG`, R109. -/
  | tmrFlag
  /-- `MSC.INIT f`, R131. -/
  | mscInit (f : Nat)
  /-- `MSC.NOW`, R132. -/
  | mscNow
  /-- `MSC.WAIT d`, R133. -/
  | mscWait (d : Nat)
  /-- `TEX.SETPERIOD m`, R151. -/
  | texSetPeriod (m : Nat)
  /-- `SRV.INIT`, R161. -/
  | srvInit
  /-- `SRV.SETABS a`, R162. -/
  | srvSetAbs (a : Int)
  /-- `SRV.SETREL d`, R163. -/
  | srvSetRel (d : Int)
  deriving DecidableEq, Repr

/-- R71: the three formats, told apart by the opcode alone. -/
inductive Format where
  | n
  | u
  | s
  deriving DecidableEq, Repr

/-- R75, column "format". -/
def Instr.format : Instr → Format
  | .tmrStart => .n
  | .tmrStop => .n
  | .tmrSetPeriod _ => .u
  | .tmrGetPeriod => .n
  | .tmrGetCount => .n
  | .tmrIrqOn => .n
  | .tmrIrqOff => .n
  | .tmrClrFlag => .n
  | .tmrFlag => .n
  | .mscInit _ => .u
  | .mscNow => .n
  | .mscWait _ => .u
  | .texSetPeriod _ => .u
  | .srvInit => .n
  | .srvSetAbs _ => .s
  | .srvSetRel _ => .s

end Sys2Proof
end

