-- ==== Sys2Proof/WellFormed.lean ====
section
/-! DEFINITION. When a term of `Instr` is a command of the block: its operand is in the range of its format
(spec rules R71, R79). Every operand in range is legal (R78). -/

namespace Sys2Proof

/-- R71, format `U`: 0 to 2^32 - 1. -/
def operandU (v : Nat) : Bool := decide (v < 2 ^ 32)

/-- R71, format `S`: -2^31 to 2^31 - 1. -/
def operandS (v : Int) : Bool := decide (-2 ^ 31 ≤ v) && decide (v < 2 ^ 31)

/-- R79: what the assembler accepts. -/
def Instr.wellFormed : Instr → Bool
  | .tmrStart => true
  | .tmrStop => true
  | .tmrSetPeriod p => operandU p
  | .tmrGetPeriod => true
  | .tmrGetCount => true
  | .tmrIrqOn => true
  | .tmrIrqOff => true
  | .tmrClrFlag => true
  | .tmrFlag => true
  | .mscInit f => operandU f
  | .mscNow => true
  | .mscWait d => operandU d
  | .texSetPeriod m => operandU m
  | .srvInit => true
  | .srvSetAbs a => operandS a
  | .srvSetRel d => operandS d

end Sys2Proof
end

