-- ==== Sys2Proof/Decode.lean ====
section
/-! DEFINITION. The command words of spec rules R70, R71, R75, R76 and R78: the decoder, total on every
40-bit word, and after it the encoder of R79. A word moves whole (R52): there is no byte order.
Decoding reads only the word; that the strap may then refuse the command (R76 (2)) is each command's
own first line, in `Machine/`. -/

namespace Sys2Proof

/-- R70: `OP := w[39:32]`. -/
def opcodeOf (w : Word40) : BitVec 8 := w.extractLsb' 32 8

/-- R70: `ARG := w[31:0]`. -/
def argOf (w : Word40) : U32 := w.extractLsb' 0 32

/-- Why a word is no command. -/
inductive DecodeError where
  /-- R211: `w[39:32]` is not one of the sixteen opcodes. -/
  | illegalOpcode (op : BitVec 8)
  deriving DecidableEq, Repr

/-- R75, R76: the sixteen opcodes; every other one is illegal (R78). Format `N` ignores `ARG`, format `U`
reads it as an unsigned integer, format `S` as a two's complement integer (R71). -/
def decode (w : Word40) : Except DecodeError Instr :=
  match (opcodeOf w).toNat with
  | 0x00 => .ok .tmrStart
  | 0x01 => .ok .tmrStop
  | 0x02 => .ok (.tmrSetPeriod (argOf w).toNat)
  | 0x03 => .ok .tmrGetPeriod
  | 0x04 => .ok .tmrGetCount
  | 0x05 => .ok .tmrIrqOn
  | 0x06 => .ok .tmrIrqOff
  | 0x07 => .ok .tmrClrFlag
  | 0x08 => .ok .tmrFlag
  | 0x10 => .ok (.mscInit (argOf w).toNat)
  | 0x11 => .ok .mscNow
  | 0x12 => .ok (.mscWait (argOf w).toNat)
  | 0x20 => .ok (.texSetPeriod (argOf w).toNat)
  | 0x30 => .ok .srvInit
  | 0x31 => .ok (.srvSetAbs (argOf w).toInt)
  | 0x32 => .ok (.srvSetRel (argOf w).toInt)
  | _ => .error (.illegalOpcode (opcodeOf w))

/-- R75, column "OP". -/
def Instr.opcode : Instr → BitVec 8
  | .tmrStart => 0x00
  | .tmrStop => 0x01
  | .tmrSetPeriod _ => 0x02
  | .tmrGetPeriod => 0x03
  | .tmrGetCount => 0x04
  | .tmrIrqOn => 0x05
  | .tmrIrqOff => 0x06
  | .tmrClrFlag => 0x07
  | .tmrFlag => 0x08
  | .mscInit _ => 0x10
  | .mscNow => 0x11
  | .mscWait _ => 0x12
  | .texSetPeriod _ => 0x20
  | .srvInit => 0x30
  | .srvSetAbs _ => 0x31
  | .srvSetRel _ => 0x32

/-- R79: `trunc_32(operand)`; 0 for format `N` (R71). -/
def Instr.arg : Instr → U32
  | .tmrSetPeriod p => BitVec.ofNat 32 p
  | .mscInit f => BitVec.ofNat 32 f
  | .mscWait d => BitVec.ofNat 32 d
  | .texSetPeriod m => BitVec.ofNat 32 m
  | .srvSetAbs a => BitVec.ofInt 32 a
  | .srvSetRel d => BitVec.ofInt 32 d
  | .tmrStart => 0
  | .tmrStop => 0
  | .tmrGetPeriod => 0
  | .tmrGetCount => 0
  | .tmrIrqOn => 0
  | .tmrIrqOff => 0
  | .tmrClrFlag => 0
  | .tmrFlag => 0
  | .mscNow => 0
  | .srvInit => 0

/-- R79: the assembler encodes `OP << 32 | trunc_32(operand)`. -/
def encode (i : Instr) : Word40 := i.opcode ++ i.arg

/-- The 40-bit word whose `nbits` low bits are those of `w`, the bits above being 0. -/
def tableWord (nbits w : Nat) : Word40 := BitVec.ofNat 40 (w % 2 ^ nbits)

/-- What `decode` reads from an opcode-table word. The table's numbering is the spec's own (R15, R70): one
word of 40 bits, bit 0 least significant. A word of more than 40 bits is no command (R70). -/
def decodeTableWord (nbits w : Nat) : Option Instr :=
  if nbits ≤ 40 then
    match decode (tableWord nbits w) with
    | .ok i => some i
    | .error _ => none
  else none

end Sys2Proof
end

