-- ==== Sys2Proof/Config.lean ====
section
/-! DEFINITION. What is fixed for the life of the block (spec rules R5, R6, R7, R37), and the one free
value the model needs. A `Config` is held in `State` as plain data that no step changes, so that a
statement about every state is a statement about every configuration (notes/assumptions/1.md). -/

namespace Sys2Proof

/-- R37: the strap that says which behaviour owns the timer interrupt. -/
inductive Sink where
  | none
  | msClock
  | timedExec
  | servo
  deriving DecidableEq, Repr

/-- R37: `NONE` = 0, `MSCLOCK` = 1, `TIMEDEXEC` = 2, `SERVO` = 3. -/
def Sink.code : Sink → BitVec 2
  | .none => 0
  | .msClock => 1
  | .timedExec => 2
  | .servo => 3

/-- R6: the parameters of one block. The three servo constants are natural numbers of timer cycles.
No rule reads `fSrcHz`: it is the number the host passes to `MSC.INIT` (R6). -/
structure Config where
  sink : Sink
  pwmPeriod : Nat
  minPulse : Nat
  oneDegreeIncrement : Nat
  fSrcHz : Nat
  deriving DecidableEq, Repr

/-- R5 `ANGLE_MAX`. -/
def Config.angleMax : Int := 180

/-- R5 `ANGLE_MIN`. -/
def Config.angleMin : Int := 0

/-- R5 `ANGLE_CENTER`. -/
def Config.angleCenter : Int := 90

/-- R5 `MS_DIVISOR`. -/
def Config.msDivisor : Nat := 1000

/-- R5 `PWM_HZ`. -/
def Config.pwmHz : Nat := 50

/-- R7 (b): `MAX_PULSE := MIN_PULSE + 180 * ONE_DEGREE_INCREMENT`. -/
def Config.maxPulse (c : Config) : Nat := c.minPulse + 180 * c.oneDegreeIncrement

/-- R7 (a), (b), (c): the configuration is well formed for the servo. The block does not check it. In
(b) the difference is written as a sum, so that a `PWM_PERIOD` of 0 does not pass by truncation. -/
def Config.servoWellFormed (c : Config) : Bool :=
  decide (1 ≤ c.minPulse) && decide (c.maxPulse + 1 ≤ c.pwmPeriod) && decide (c.pwmPeriod ≤ 2 ^ 24)

/-- R7 (d): the 50 Hz figure holds for this configuration. R15 writes a floored quotient as `div` and does
not define the `/` of R7 (d); it is read as exact, because R165 says that "50 Hz holds when `PWM_PERIOD`
cycles of the source clock last 20 ms" (DEDUCED, notes/assumptions/11.md). No step reads it. -/
def Config.fiftyHz (c : Config) : Bool := c.pwmPeriod * Config.pwmHz == c.fSrcHz

/-- R7, the spec's own example `EX1`, with a strap. -/
def Config.ex1 (k : Sink) : Config := ⟨k, 60000, 3000, 16, 3000000⟩

/-- R7, the spec's own example `EX2`, with a strap. -/
def Config.ex2 (k : Sink) : Config := ⟨k, 400, 20, 1, 20000⟩

/-- R6: the value of `PWM_PERIOD` in `State.reset`. The spec gives none (notes/assumptions/2.md). -/
opaque Config.openPwmPeriod : Nat

/-- R6: the value of `MIN_PULSE` in `State.reset`. The spec gives none (notes/assumptions/2.md). -/
opaque Config.openMinPulse : Nat

/-- R6: the value of `ONE_DEGREE_INCREMENT` in `State.reset`. The spec gives none
(notes/assumptions/2.md). -/
opaque Config.openOneDegreeIncrement : Nat

/-- R6: the value of `F_SRC_HZ` in `State.reset`. The spec gives none (notes/assumptions/2.md). -/
opaque Config.openFSrcHz : Nat

/-- The configuration of `State.reset`: the strap at `NONE`, "the no-op default" (R6), and parameters
nothing is known of (DESIGN CHOICE, notes/assumptions/2.md). -/
def Config.default : Config :=
  ⟨.none, Config.openPwmPeriod, Config.openMinPulse, Config.openOneDegreeIncrement, Config.openFSrcHz⟩

/-- FREE VALUE (R135: when an enabled `WaitDone` is taken "is not determined"; "any number" of `Cycle` steps
"may come first", and "weak fairness says it is taken at last"). Draw number `n`: how many `Cycle` steps the
host's polling loop lets pass. Nothing constrains the number but that it is one (notes/assumptions/4.md). -/
opaque Config.freeDelay : Nat → Nat

end Sys2Proof
end

