-- ==== Sys2Proof/Machine/State.lean ====
section
/-! DEFINITION. The state of the block (spec rule R20, eighteen fields), beside it the configuration (R6,
R37), the trace of what the block answers and emits (R13, R14), and the model's own three
fields for the choices the spec leaves to the environment (R11, R135: `agenda`, `draws`, `poll`). -/

namespace Sys2Proof.Machine

/-- R35: what the next servo `Service` will do. -/
inductive Phase where
  | highPending
  | lowPending
  deriving DecidableEq, Repr

/-- R35: `HIGH_PENDING` = 0, `LOW_PENDING` = 1. -/
def Phase.code : Phase → BitVec 1
  | .highPending => 0
  | .lowPending => 1

/-- R72: the status of a response. The fourth code, 3, is never produced. -/
inductive Status where
  | ok
  | illegalOpcode
  | sinkUnavailable
  deriving DecidableEq, Repr

/-- R72: `ST`, 2 bits. -/
def Status.code : Status → BitVec 2
  | .ok => 0
  | .illegalOpcode => 1
  | .sinkUnavailable => 2

/-- R72: the response `(ST, RSP)`. -/
structure Response where
  st : Status
  rsp : U64
  deriving DecidableEq, Repr

/-- R13: the events a step emits. -/
inductive Event where
  | execCb
  | pinLow
  | pinHigh
  deriving DecidableEq, Repr

/-- R9: the five kinds of step. -/
inductive StepKind where
  | reset
  | cycle
  | service
  | cmd (w : Word40)
  | waitDone
  deriving DecidableEq, Repr

/-- R10: the moves the clock, the host and the environment may make. `Service` is not among them: it is
forced (R11 (a)). R11 (c) leaves open whether a `Reset` comes before a `Service` that is pending, so there
are two moves for it (DESIGN CHOICE, notes/assumptions/3.md). -/
inductive Move where
  /-- A `Reset`, after the pending `Service` if there is one. -/
  | reset
  /-- A `Reset` at once, before a pending `Service` (R206 (d)). -/
  | resetAtOnce
  /-- A `Cycle`. -/
  | cycle
  /-- A command. -/
  | cmd (w : Word40)
  /-- The return of a blocking wait. -/
  | waitDone
  deriving DecidableEq, Repr

/-- R14: what an observation of the block is made of: the steps, the responses and the events. -/
inductive Obs where
  | step (k : StepKind)
  | response (r : Response)
  | event (e : Event)
  deriving DecidableEq, Repr

/-- The record of R20, in its order, then the configuration, the model's own fields and the trace. -/
structure State where
  /-- `RELOAD`, R21. -/
  reload : U24
  /-- `COUNT`, R22. -/
  count : U24
  /-- `RUN`, R23. -/
  run : Bool
  /-- `IE`, R24. -/
  ie : Bool
  /-- `CLKSRC`, R25. -/
  clksrc : Bool
  /-- `FLAG`, R26. -/
  flag : Bool
  /-- `MS`, R28. -/
  ms : U64
  /-- `WAITING`, R29. -/
  waiting : Bool
  /-- `DEADLINE`, R29. -/
  deadline : U64
  /-- `XPERIOD`, R30. -/
  xperiod : U32
  /-- `XCOUNT`, R31. -/
  xcount : U32
  /-- `ON_TIME`, R32. -/
  onTime : U32
  /-- `OFF_TIME`, R32. -/
  offTime : U32
  /-- `NEW_POS`, R33, two's complement. -/
  newPos : S32
  /-- `CUR_POS`, R34, two's complement. -/
  curPos : S32
  /-- `PHASE`, R35. -/
  phase : Phase
  /-- `PIN`, R36. -/
  pin : Bool
  /-- `PIN_OE`, R36. -/
  pinOe : Bool
  /-- The strap and the parameters (R6, R37): configuration, which no step changes. -/
  cfg : Config
  /-- The model's own: the moves the environment will make, in its order (R11, notes/assumptions/3.md). -/
  agenda : List Move
  /-- The model's own: how many free values have been drawn (notes/assumptions/4.md). -/
  draws : Nat
  /-- The model's own: how many `Cycle` steps the host's polling loop still lets pass before an enabled
  `WaitDone` is taken; `none` while it has not begun to (R135, notes/assumptions/4.md). -/
  poll : Option Nat
  /-- R13, R14: what has been observed since `Reset`, newest first (notes/assumptions/5.md). -/
  trace : List Obs
  deriving DecidableEq, Repr

/-- The block has no fault: it "never halts and has no final state" (R14) and "nothing else is an
exception" than a refused command, which is answered (R213, R210). Nobody raises one. -/
inductive Fault where
  deriving DecidableEq, Repr

/-- The model's own refusals; the block's `refuse(code)` is none of them (it is a response, R210). -/
inductive Refusal where
  /-- An instruction whose arm has no meaning yet. No arm raises it; it would be safe. -/
  | notModelled (mnemonic : String)
  deriving DecidableEq, Repr

/-- What running a command answers. -/
abbrev Result := Host.Outcome State Fault Refusal

/-- R42: the value of every field after `Reset`, for the configuration `c`, which `Reset` keeps. The trace
is empty (R42), and the environment has announced nothing. -/
def State.resetWith (c : Config) : State where
  reload := 0
  count := 0
  run := false
  ie := false
  clksrc := false
  flag := false
  ms := 0
  waiting := false
  deadline := 0
  xperiod := 0
  xcount := 0
  onTime := 0
  offTime := 0
  newPos := 0
  curPos := 0
  phase := .highPending
  pin := false
  pinOe := false
  cfg := c
  agenda := []
  draws := 0
  poll := none
  trace := []

/-- R42, with the configuration of notes/assumptions/2.md. -/
def State.reset : State := State.resetWith Config.default

end Sys2Proof.Machine
end

