-- ==== Sys2Proof/Machine/Flags.lean ====
section
/-! DEFINITION. `FLAG`, the one status flag of the block, with its gate `IE` (spec rules R24, R26, R201),
and the two level outputs of R13. -/

namespace Sys2Proof.Machine

/-- R201: the interrupt line is the level `FLAG = 1 and IE = 1`. -/
def State.irq (s : State) : Bool := s.flag && s.ie

/-- R13: the output `irq_out` carries that level. -/
def State.irqOut (s : State) : Bool := s.irq

/-- R13: `servo_out` is `PIN` when driven; `none` is the undriven level `Z`. -/
def State.servoOut (s : State) : Option Bool := if s.pinOe then some s.pin else none

/-- R108, R203: `clearInterruptFlag()`. -/
def State.clearFlag (s : State) : State := { s with flag := false }

/-- R100, R26: an expiry sets the flag, whatever `IE` is; a set flag stays set and nothing is counted. -/
def State.raiseFlag (s : State) : State := { s with flag := true }

/-- R106: `enableInterrupt()`. -/
def State.irqOn (s : State) : State := { s with ie := true }

/-- R107: `disableInterrupt()`. -/
def State.irqOff (s : State) : State := { s with ie := false }

/-- R109: the Boolean of `TMR.FLAG`, 0 or 1 (R74). -/
def State.flagBit (s : State) : Nat := if s.flag then 1 else 0

end Sys2Proof.Machine
end

