-- ==== Sys2Proof/Machine/Operands.lean ====
section
/-! DEFINITION. The arithmetic of spec rule R15: truncation, extension and clamping. Everything else is
arithmetic on unbounded integers, as R15 says. -/

namespace Sys2Proof.Machine

/-- R15: `trunc_N(v)` is `v mod 2^N` for any integer `v`, negative included. -/
def trunc (n : Nat) (v : Int) : BitVec n := BitVec.ofInt n v

/-- R15: `zext_64` of an unsigned value. -/
def zext64 (v : Nat) : U64 := BitVec.ofNat 64 v

/-- R15: `sext_64` of an `s32`. -/
def sext64 (v : S32) : U64 := v.signExtend 64

/-- R15: `clamp(v, lo, hi)`. -/
def clamp (v lo hi : Int) : Int := if v < lo then lo else if v > hi then hi else v

/-- R103, R110: the reload value of a period of `p` cycles, `trunc_24(p - 1)`, the subtraction on integers. -/
def reloadFor (p : Nat) : U24 := trunc 24 ((p : Int) - 1)

/-- R104, R21: the period a reload value stands for, `RELOAD + 1`, not truncated. -/
def periodOf (r : U24) : Nat := r.toNat + 1

/-- R160: `Pulse(pos)`, the pair `(on, off)`. -/
def pulse (c : Config) (pos : S32) : U32 × U32 :=
  let on : U32 := trunc 32 ((c.minPulse : Int) + pos.toInt * (c.oneDegreeIncrement : Int))
  let off : U32 := trunc 32 ((c.pwmPeriod : Int) - (on.toNat : Int))
  (on, off)

/-- R162: what `SRV.SETABS` stores: an upper clamp only. -/
def upperClamp (a : Int) : Int := if a > Config.angleMax then Config.angleMax else a

end Sys2Proof.Machine
end

