-- ==== Sys2Proof/Machine/Ops.lean ====
section
/-! DEFINITION. The operations the commands and the steps share, each written once from its rule: responses
and events, the timer, the servo, the steps that are not commands (`Cycle`, `Service`, `WaitDone`,
`Reset`), and which step comes next. -/

namespace Sys2Proof.Machine

/-! ### Responses and events -/

/-- R14: a step enters the observation. -/
def State.mark (k : StepKind) (s : State) : State := { s with trace := .step k :: s.trace }

/-- R16: `emit E`. -/
def State.emit (e : Event) (s : State) : State := { s with trace := .event e :: s.trace }

/-- R16, R72: `respond(st, v)`. -/
def State.respond (st : Status) (v : U64) (s : State) : State :=
  { s with trace := .response ⟨st, v⟩ :: s.trace }

/-- R210: `refuse(code)`: response `(code, 0)`, no field changed, no event. -/
def State.refuse (code : Status) (s : State) : State := s.respond code 0

/-- R211: the answer to a word that spells no command. -/
def State.illegalOpcode (s : State) : State := s.refuse .illegalOpcode

/-! ### Availability (R77) -/

/-- R77: `MSC.*` is available under `MSCLOCK` and `TIMEDEXEC`. -/
def clockPresent : Sink → Bool
  | .none => false
  | .msClock => true
  | .timedExec => true
  | .servo => false

/-- R77: `TEX.SETPERIOD` is available under `TIMEDEXEC`. -/
def dispatcherPresent : Sink → Bool
  | .none => false
  | .msClock => false
  | .timedExec => true
  | .servo => false

/-- R77: `SRV.*` is available under `SERVO`. -/
def servoPresent : Sink → Bool
  | .none => false
  | .msClock => false
  | .timedExec => false
  | .servo => true

/-- R76 (2), (3), R212: run the command if the strap has its unit, else answer `SINK_UNAVAILABLE` and
change nothing. -/
def whenAvailable (available : Bool) (s t : State) : Result :=
  if available then .next t else .next (s.refuse .sinkUnavailable)

/-! ### The timer -/

/-- R101: `start()`. -/
def State.timerStart (s : State) : State :=
  { s with count := if s.run then s.count else 0, run := true, clksrc := true }

/-- R102: `stop()`. -/
def State.timerStop (s : State) : State := { s with run := false }

/-- R103: `setPeriod(p)`. -/
def State.setPeriod (p : Nat) (s : State) : State := { s with reload := reloadFor p }

/-- R110: `TimerRestart(p)`: stop, set the period, start, without the responses. -/
def State.timerRestart (p : Nat) (s : State) : State := ((s.timerStop).setPeriod p).timerStart

/-- R100: the new `COUNT` of a running timer: reload at 0, else one less. -/
def State.nextCount (s : State) : U24 := if s.count = 0 then s.reload else s.count - 1

/-- R100: `Cycle`. The test for expiry is of the new `COUNT`. -/
def State.cycle (s : State) : State :=
  if s.run then
    let t : State := { s with count := s.nextCount }
    if t.count = 0 then t.raiseFlag else t
  else s

/-! ### The millisecond clock and the dispatcher -/

/-- R130: `MsTick`. -/
def State.msTick (s : State) : State := { s with ms := trunc 64 ((s.ms.toNat : Int) + 1) }

/-- R150: `ExecTick`. -/
def State.execTick (s : State) : State :=
  if s.xperiod = 0 then { s with xcount := 0 }
  else
    let t : State := { s with xcount := s.xcount + 1 }
    if t.xcount = t.xperiod then ({ t with xcount := 0 } : State).emit .execCb else t

/-- R135: the condition `WAITING = 1 and MS >= DEADLINE`, an unsigned comparison (R138). -/
def State.waitOver (s : State) : Bool := s.waiting && decide (s.deadline.toNat ≤ s.ms.toNat)

/-- R135: `WaitDone`: the response is that of the `MSC.WAIT` in progress, and the host's polling ends. -/
def State.waitDone (s : State) : State := ({ s with waiting := false, poll := none } : State).respond .ok 0

/-! ### The servo -/

/-- R161, R165: write `PIN` and emit the event of the level written. -/
def State.drivePin (level : Bool) (s : State) : State :=
  ({ s with pin := level } : State).emit (if level then .pinHigh else .pinLow)

/-- R161, R165: `CUR_POS` becomes `pos` and `(ON_TIME, OFF_TIME) <- Pulse(CUR_POS)`. -/
def State.latch (pos : S32) (s : State) : State :=
  { s with curPos := pos, onTime := (pulse s.cfg pos).1, offTime := (pulse s.cfg pos).2 }

/-- R165, first arm: the high pulse begins. -/
def State.beginHigh (s : State) : State :=
  let t := (s.latch s.newPos).drivePin true
  { t.timerRestart t.onTime.toNat with phase := .lowPending }

/-- R165, second arm: the low remainder begins. -/
def State.beginLow (s : State) : State :=
  let t := s.drivePin false
  { t.timerRestart t.offTime.toNat with phase := .highPending }

/-- R165: `ServoPhase`. -/
def State.servoPhase (s : State) : State :=
  match s.phase with
  | .highPending => s.beginHigh
  | .lowPending => s.beginLow

/-! ### Taking the interrupt, and Reset -/

/-- R203: `Service`, the interrupt handler: the flag first, then the arm the strap selects. It saves
nothing and masks nothing (R204), and it ends by itself (R205): there is no return operation. -/
def State.service (s : State) : State :=
  let t := s.clearFlag
  match t.cfg.sink with
  | .none => t
  | .msClock => t.msTick
  | .timedExec => t.msTick.execTick
  | .servo => t.servoPhase

/-- R230: `Reset`. The strap and the parameters are unchanged; so are the moves still to come and the count
of free values drawn, which are not the block's (DESIGN CHOICE, notes/assumptions/3.md and 4.md). The wait
in progress is abandoned, and the polling with it. -/
def State.resetBlock (s : State) : State :=
  { State.resetWith s.cfg with agenda := s.agenda, draws := s.draws }

/-! ### Which step comes next (R11) -/

/-- R135: the `Cycle` steps that still come before an enabled `WaitDone`, drawn when it is first put off. -/
def State.patience (s : State) : Nat := s.poll.getD (Config.freeDelay s.draws)

/-- The count of free values drawn, once `patience` has been looked up. -/
def State.drawn (s : State) : Nat := if s.poll.isSome then s.draws else s.draws + 1

/-- R11 (b), when the environment has announced no move that is enabled: the clock cycles, which it always
can, until the host's polling loop takes an enabled `WaitDone`, as it does at last (R12, R135). -/
def State.idle (s : State) : StepKind × State :=
  if s.waitOver then
    match s.patience with
    | 0 => (.waitDone, { s with draws := s.drawn })
    | n + 1 => (.cycle, { s with draws := s.drawn, poll := some n })
  else (.cycle, s)

/-- R11, R206: the next step and the state it is taken from. A `Reset` at once is enabled in every state.
Else `Service` is forced while `irq` holds and takes no move off the agenda. Else the move at the head is
made if it is enabled, and stays at the head, held, if it is not. -/
def State.schedule (s : State) : StepKind × State :=
  match s.agenda with
  | .resetAtOnce :: rest => (.reset, { s with agenda := rest })
  | .reset :: rest => if s.irq then (.service, s) else (.reset, { s with agenda := rest })
  | .cycle :: rest => if s.irq then (.service, s) else (.cycle, { s with agenda := rest })
  | .cmd w :: rest =>
    if s.irq then (.service, s) else if s.waiting then s.idle else (.cmd w, { s with agenda := rest })
  | .waitDone :: rest =>
    if s.irq then (.service, s) else if s.waitOver then (.waitDone, { s with agenda := rest }) else s.idle
  | [] => if s.irq then (.service, s) else s.idle

/-- The kind of the step that comes next. -/
def State.nextKind (s : State) : StepKind := s.schedule.1

end Sys2Proof.Machine
end

