-- ==== Sys2Proof/Machine/Dispatcher.lean ====
section
/-! DEFINITION. The one command of the timed execution dispatcher (spec rule R151), available under
`TIMEDEXEC` (R77). -/

namespace Sys2Proof.Machine

/-- R151, `TEX.SETPERIOD m`: `IE` is left set whatever it was. -/
def execTexSetPeriod (m : Nat) (s : State) : Result :=
  whenAvailable (dispatcherPresent s.cfg.sink) s
    ((({ s.irqOff with xperiod := trunc 32 (m : Int), xcount := 0 } : State).irqOn).respond .ok 0)

end Sys2Proof.Machine
end

