-- ==== Sys2Proof/Machine/MsClock.lean ====
section
/-! DEFINITION. The three commands of the millisecond clock (spec rules R131 to R133), available under
`MSCLOCK` and `TIMEDEXEC` (R77). Each is one atomic step (R54). -/

namespace Sys2Proof.Machine

/-- R131, `MSC.INIT f`, in the document's order. -/
def execMscInit (f : Nat) (s : State) : Result :=
  whenAvailable (clockPresent s.cfg.sink) s
    (((((({ s with ms := 0 } : State).timerStop.clearFlag).setPeriod (f / Config.msDivisor)).irqOn).timerStart).respond
      .ok 0)

/-- R132, `MSC.NOW`: `IE` is left set whatever it was. -/
def execMscNow (s : State) : Result :=
  whenAvailable (clockPresent s.cfg.sink) s
    (let t := s.irqOff
     t.irqOn.respond .ok t.ms)

/-- R133, `MSC.WAIT d`: no response in this step (`WaitDone` gives it, R135). -/
def execMscWait (d : Nat) (s : State) : Result :=
  whenAvailable (clockPresent s.cfg.sink) s
    { s.irqOn with deadline := trunc 64 ((s.ms.toNat : Int) + (d : Int)), waiting := true }

end Sys2Proof.Machine
end

