-- ==== Sys2Proof/Machine/Servo.lean ====
section
/-! DEFINITION. The three commands of the servo pulse generator (spec rules R161 to R163), available under
`SERVO` (R77). -/

namespace Sys2Proof.Machine

/-- R161: the pin becomes an output, low at first; both angles are the centre; the pin is raised. -/
def servoSetUp (s : State) : State :=
  let a := ({ s with pinOe := true } : State).drivePin false
  let b : State := { a with newPos := trunc 32 Config.angleCenter }
  (b.latch b.newPos).drivePin true

/-- R161, `SRV.INIT`: neither stops the timer nor clears the flag. -/
def execSrvInit (s : State) : Result :=
  whenAvailable (servoPresent s.cfg.sink) s
    (let t := servoSetUp s
     let u := ((t.setPeriod t.onTime.toNat).irqOn).timerStart
     ({ u with phase := .lowPending } : State).respond .ok (sext64 (trunc 32 Config.angleCenter)))

/-- R162, R163: store the pending angle `v` and answer it. -/
def State.setPending (v : Int) (s : State) : State :=
  ({ s with newPos := trunc 32 v } : State).respond .ok (sext64 (trunc 32 v))

/-- R162, `SRV.SETABS a`: an upper clamp and no lower one. -/
def execSrvSetAbs (a : Int) (s : State) : Result :=
  whenAvailable (servoPresent s.cfg.sink) s (s.setPending (upperClamp a))

/-- R163, `SRV.SETREL d`: the exact sum with the latched angle, clamped at both bounds. -/
def execSrvSetRel (d : Int) (s : State) : Result :=
  whenAvailable (servoPresent s.cfg.sink) s
    (s.setPending (clamp (s.curPos.toInt + d) Config.angleMin Config.angleMax))

end Sys2Proof.Machine
end

