-- ==== Sys2Proof/Machine/Timer.lean ====
section
/-! DEFINITION. The nine timer commands (spec rules R101 to R109). They are available under every strap and
never refused (R77, R213). Format `N` commands ignore `ARG` (R71), so they take no operand. -/

namespace Sys2Proof.Machine

/-- R101, `TMR.START`. -/
def execTmrStart (s : State) : Result := .next (s.timerStart.respond .ok 0)

/-- R102, `TMR.STOP`. -/
def execTmrStop (s : State) : Result := .next (s.timerStop.respond .ok 0)

/-- R103, `TMR.SETPERIOD p`. -/
def execTmrSetPeriod (p : Nat) (s : State) : Result := .next ((s.setPeriod p).respond .ok 0)

/-- R104, `TMR.GETPERIOD`. -/
def execTmrGetPeriod (s : State) : Result := .next (s.respond .ok (zext64 (periodOf s.reload)))

/-- R105, `TMR.GETCOUNT`. -/
def execTmrGetCount (s : State) : Result := .next (s.respond .ok (zext64 s.count.toNat))

/-- R106, `TMR.IRQON`. -/
def execTmrIrqOn (s : State) : Result := .next (s.irqOn.respond .ok 0)

/-- R107, `TMR.IRQOFF`. -/
def execTmrIrqOff (s : State) : Result := .next (s.irqOff.respond .ok 0)

/-- R108, `TMR.CLRFLAG`. -/
def execTmrClrFlag (s : State) : Result := .next (s.clearFlag.respond .ok 0)

/-- R109, `TMR.FLAG`: the read clears the flag it answers. -/
def execTmrFlag (s : State) : Result := .next (s.clearFlag.respond .ok (zext64 s.flagBit))

end Sys2Proof.Machine
end

