-- ==== Sys2Proof/Machine/Dispatch.lean ====
section
/-! DEFINITION. The one dispatch from a command to its meaning: one arm per row of spec/opcode_table.json. -/

namespace Sys2Proof.Machine

def exec (i : Instr) (s : State) : Host.Outcome State Fault Refusal :=
  match i with
  -- the timer, R101 to R109
  | .tmrStart => Sys2Proof.Machine.execTmrStart s
  | .tmrStop => Sys2Proof.Machine.execTmrStop s
  | .tmrSetPeriod p => Sys2Proof.Machine.execTmrSetPeriod p s
  | .tmrGetPeriod => Sys2Proof.Machine.execTmrGetPeriod s
  | .tmrGetCount => Sys2Proof.Machine.execTmrGetCount s
  | .tmrIrqOn => Sys2Proof.Machine.execTmrIrqOn s
  | .tmrIrqOff => Sys2Proof.Machine.execTmrIrqOff s
  | .tmrClrFlag => Sys2Proof.Machine.execTmrClrFlag s
  | .tmrFlag => Sys2Proof.Machine.execTmrFlag s
  -- the millisecond clock, R131 to R133
  | .mscInit f => Sys2Proof.Machine.execMscInit f s
  | .mscNow => Sys2Proof.Machine.execMscNow s
  | .mscWait d => Sys2Proof.Machine.execMscWait d s
  -- the dispatcher, R151
  | .texSetPeriod m => Sys2Proof.Machine.execTexSetPeriod m s
  -- the servo, R161 to R163
  | .srvInit => Sys2Proof.Machine.execSrvInit s
  | .srvSetAbs a => Sys2Proof.Machine.execSrvSetAbs a s
  | .srvSetRel d => Sys2Proof.Machine.execSrvSetRel d s

end Sys2Proof.Machine
end

