-- ==== Sys2Proof/Machine/Take.lean ====
section
/-! DEFINITION. Taking a step of each of the five kinds of spec rule R9. Which kind comes next is
`State.schedule` (R11). -/

namespace Sys2Proof.Machine

/-- R76: decode the word; a word that spells no command is answered (R211); else run the command. -/
def runWord (w : Word40) (s : State) : Result :=
  match decode w with
  | .ok i => exec i s
  | .error _ => .next s.illegalOpcode

/-- R9: a step of the kind `k`. It enters the trace before its effect (`Reset` empties the trace instead,
R230). -/
def take (k : StepKind) (s : State) : Result :=
  match k with
  | .reset => .next s.resetBlock
  | .service => .next (s.mark .service).service
  | .cycle => .next (s.mark .cycle).cycle
  | .waitDone => .next (s.mark .waitDone).waitDone
  | .cmd w => runWord w (s.mark (.cmd w))

/-- A command word put at the head of the agenda, with the two things taken away that would hold it off: a
pending `Service` (the flag is cleared if the interrupt is enabled, R11 (a)) and a wait in progress
(R11 (b)). -/
def State.offer (s : State) (w : Word40) : State :=
  { s with agenda := .cmd w :: s.agenda, flag := s.flag && !s.ie, waiting := false, poll := none }

end Sys2Proof.Machine
end

