-- ==== Sys2Proof/Machine/Step.lean ====
section
/-! DEFINITION. One step of the block (spec rules R9, R11). -/

namespace Sys2Proof.Machine

/-- R9, R11: one atomic step, of the kind that comes next. -/
def step (s : State) : Host.Outcome State Fault Refusal := take s.schedule.1 s.schedule.2

/-- A command word reaches the block from the host, not from a memory (R61): the table's word is the next
command offered at the port (notes/assumptions/6.md). -/
def State.withFetchWord (s : State) (nbits w : Nat) : State := s.offer (tableWord nbits w)

end Sys2Proof.Machine
end

