-- ==== Sys2Proof/Machine/Assembler.lean ====
section
/-! DEFINITION. The assembler syntax of spec rule R79: one line of text to one command word. The block never
sees text; the syntax is how the programs of spec/95_test_vectors.md are written down. What R79 leaves
open of the lexical form is in notes/assumptions/9.md. -/

namespace Sys2Proof.Machine

/-- One line of text, without its end of line. -/
abbrev Line := List Char

/-- Why a line is rejected. -/
inductive AsmError where
  /-- The first word of the line is none of the sixteen mnemonics, nor a directive of R81. -/
  | unknownMnemonic
  /-- R79: format `N` takes no operand, formats `U` and `S` take one. -/
  | operandCount
  /-- R79: the operand is no decimal integer and no `0x` numeral, or has a `-` outside format `S`. -/
  | notAnInteger
  /-- R79: the operand is outside the range of its format. -/
  | operandRange
  /-- R81: what follows a directive is not what it takes. -/
  | badDirective
  deriving DecidableEq, Repr

/-- R79, R75: each mnemonic with its command, the operand still 0. -/
def mnemonics : List (Line × Instr) :=
  [("TMR.START".toList, .tmrStart), ("TMR.STOP".toList, .tmrStop), ("TMR.SETPERIOD".toList, .tmrSetPeriod 0),
    ("TMR.GETPERIOD".toList, .tmrGetPeriod), ("TMR.GETCOUNT".toList, .tmrGetCount),
    ("TMR.IRQON".toList, .tmrIrqOn), ("TMR.IRQOFF".toList, .tmrIrqOff), ("TMR.CLRFLAG".toList, .tmrClrFlag),
    ("TMR.FLAG".toList, .tmrFlag), ("MSC.INIT".toList, .mscInit 0), ("MSC.NOW".toList, .mscNow),
    ("MSC.WAIT".toList, .mscWait 0), ("TEX.SETPERIOD".toList, .texSetPeriod 0), ("SRV.INIT".toList, .srvInit),
    ("SRV.SETABS".toList, .srvSetAbs 0), ("SRV.SETREL".toList, .srvSetRel 0)]

/-- The command with the operand `v`, for the formats that have one. -/
def withOperand (v : Int) : Instr → Instr
  | .tmrSetPeriod _ => .tmrSetPeriod v.toNat
  | .mscInit _ => .mscInit v.toNat
  | .mscWait _ => .mscWait v.toNat
  | .texSetPeriod _ => .texSetPeriod v.toNat
  | .srvSetAbs _ => .srvSetAbs v
  | .srvSetRel _ => .srvSetRel v
  | .tmrStart => .tmrStart
  | .tmrStop => .tmrStop
  | .tmrGetPeriod => .tmrGetPeriod
  | .tmrGetCount => .tmrGetCount
  | .tmrIrqOn => .tmrIrqOn
  | .tmrIrqOff => .tmrIrqOff
  | .tmrClrFlag => .tmrClrFlag
  | .tmrFlag => .tmrFlag
  | .mscNow => .mscNow
  | .srvInit => .srvInit

/-- R79: a `;` starts a comment that runs to the end of the line. -/
def withoutComment : Line → Line
  | [] => []
  | c :: l => if c = ';' then [] else c :: withoutComment l

/-- What separates two words of a line. -/
def isBlank (c : Char) : Bool := c == ' ' || c == '\t'

/-- The words of a line, `part` being the letters already read of the first, last letter first. -/
def wordsFrom (part : Line) : Line → List Line
  | [] => if part.isEmpty then [] else [part.reverse]
  | c :: l =>
    if isBlank c then (if part.isEmpty then wordsFrom [] l else part.reverse :: wordsFrom [] l)
    else wordsFrom (c :: part) l

/-- The words of a line before its comment. -/
def lineWords (l : Line) : List Line := wordsFrom [] (withoutComment l)

/-- The value of a digit. -/
def digitValue (base : Nat) (c : Char) : Option Nat :=
  if '0' ≤ c ∧ c ≤ '9' then some (c.toNat - '0'.toNat)
  else if base = 16 ∧ 'a' ≤ c ∧ c ≤ 'f' then some (c.toNat - 'a'.toNat + 10)
  else if base = 16 ∧ 'A' ≤ c ∧ c ≤ 'F' then some (c.toNat - 'A'.toNat + 10)
  else none

/-- The value of a row of digits after the value `high` of those before it. -/
def digitsValue (base high : Nat) : Line → Option Nat
  | [] => some high
  | c :: l =>
    match digitValue base c with
    | some d => digitsValue base (high * base + d) l
    | none => none

/-- R79: a decimal integer, or `0x` and hexadecimal digits. -/
def unsignedOperand : Line → Option Nat
  | [] => none
  | '0' :: 'x' :: l => if l.isEmpty then none else digitsValue 16 0 l
  | c :: l => digitsValue 10 0 (c :: l)

/-- R79: "format `S` takes a leading `-`". -/
def signedOperand : Line → Option Int
  | '-' :: l => (unsignedOperand l).map fun n => -(n : Int)
  | l => (unsignedOperand l).map fun n => (n : Int)

/-- R79: the operand of the format. -/
def operandOf (f : Format) (l : Line) : Option Int :=
  match f with
  | .n => none
  | .u => (unsignedOperand l).map fun n => (n : Int)
  | .s => signedOperand l

/-- R79: the command of a mnemonic and its operand words. -/
def commandOf (name : Line) (operands : List Line) : Except AsmError Instr :=
  match mnemonics.lookup name with
  | none => .error .unknownMnemonic
  | some i =>
    match i.format, operands with
    | .n, [] => .ok i
    | .u, [l] | .s, [l] =>
      match operandOf i.format l with
      | none => .error .notAnInteger
      | some v => if (withOperand v i).wellFormed then .ok (withOperand v i) else .error .operandRange
    | .n, _ :: _ => .error .operandCount
    | .u, _ => .error .operandCount
    | .s, _ => .error .operandCount

/-- R79: assemble one line. A line with nothing before its comment is no command. -/
def assemble (l : Line) : Except AsmError (Option Word40) :=
  match lineWords l with
  | [] => .ok none
  | name :: operands =>
    match commandOf name operands with
    | .ok i => .ok (some (encode i))
    | .error e => .error e

end Sys2Proof.Machine
end

