-- ==== Sys2Proof/Machine/Script.lean ====
section
/-! DEFINITION. The script directives of spec rule R81, read as the moves the environment makes and the
configuration it makes them on. -/

namespace Sys2Proof.Machine

/-- R81: a line of a script, a command line included. -/
inductive Directive where
  /-- `@reset`: a `Reset` step, after the `Service` that a `@cycle` before it enabled. -/
  | reset
  /-- `@sink X`: the strap of the script. -/
  | sink (k : Sink)
  /-- `@config EX1`. -/
  | configEx1
  /-- `@config EX2`. -/
  | configEx2
  /-- `@cycle n`: `n` `Cycle` steps; the `Service` steps that follow them are forced, so they are no moves. -/
  | cycle (n : Nat)
  /-- `@expect ...`: it states what is observed and changes nothing. -/
  | expect (claim : List Line)
  /-- A command line (R79). -/
  | command (w : Word40)
  deriving DecidableEq, Repr

/-- R6, R37: the strap by its name. -/
def sinkNamed (l : Line) : Option Sink :=
  [("NONE".toList, Sink.none), ("MSCLOCK".toList, Sink.msClock), ("TIMEDEXEC".toList, Sink.timedExec),
    ("SERVO".toList, Sink.servo)].lookup l

/-- R81: the directive of a line; none for a line with nothing before its comment. R81 does not say how the
`n` of `@cycle n` is written: it is taken in both of R79's forms, decimal and `0x` (DESIGN CHOICE,
notes/assumptions/9.md). -/
def directiveOf (l : Line) : Except AsmError (Option Directive) :=
  match lineWords l with
  | [] => .ok none
  | name :: rest =>
    if name = "@reset".toList then (if rest = [] then .ok (some .reset) else .error .badDirective)
    else if name = "@sink".toList then
      match rest with
      | [x] => match sinkNamed x with
        | some k => .ok (some (.sink k))
        | none => .error .badDirective
      | _ => .error .badDirective
    else if name = "@config".toList then
      if rest = ["EX1".toList] then .ok (some .configEx1)
      else if rest = ["EX2".toList] then .ok (some .configEx2)
      else .error .badDirective
    else if name = "@cycle".toList then
      match rest with
      | [x] => match unsignedOperand x with
        | some n => .ok (some (.cycle n))
        | none => .error .badDirective
      | _ => .error .badDirective
    else if name = "@expect".toList then .ok (some (.expect rest))
    else match commandOf name rest with
      | .ok i => .ok (some (.command (encode i)))
      | .error e => .error e

/-- R81: the moves of a directive. -/
def Directive.moves : Directive → List Move
  | .reset => [.reset]
  | .sink _ => []
  | .configEx1 => []
  | .configEx2 => []
  | .cycle n => List.replicate n .cycle
  | .expect _ => []
  | .command w => [.cmd w]

/-- R81: what a directive says of the configuration. -/
def Directive.configure (c : Config) : Directive → Config
  | .sink k => { c with sink := k }
  | .configEx1 => Config.ex1 c.sink
  | .configEx2 => Config.ex2 c.sink
  | .reset => c
  | .cycle _ => c
  | .expect _ => c
  | .command _ => c

/-- R81, R9: the state a script runs from, its moves announced. `@sink` and `@config` speak of the whole
script wherever they stand; R81 does not say what a second one means, and here the last one holds (DESIGN
CHOICE, notes/assumptions/9.md). `WaitDone` is no directive: when it is taken is a free value (R135). -/
def scriptStart (script : List Directive) : State :=
  { State.resetWith (script.foldl Directive.configure Config.default) with agenda := script.flatMap Directive.moves }

end Sys2Proof.Machine
end

