-- ==== Sys2Proof/Safety.lean ====
section
/-! DEFINITION. The terms the claims use: runs of the block (spec rules R9, R14), what a run's steps are made
of, and the invariants of R40 and of U15 (spec/93_implementation_defined.md). -/

namespace Sys2Proof.Machine

/-! ### Runs -/

/-- R9: `ks` are the kinds of the steps of a run from `s` to `t`, in order. -/
inductive Path : State → List StepKind → State → Prop where
  | done (s : State) : Path s [] s
  | cons {s u t : State} {ks : List StepKind} : step s = .next u → Path u ks t → Path s (s.nextKind :: ks) t

/-- R9, R230: a run starts with `Reset`; nothing is known of the configuration, of the moves the
environment makes and of the free values drawn. -/
def State.afterReset (c : Config) (moves : List Move) (drawn : Nat) : State :=
  { State.resetWith c with agenda := moves, draws := drawn }

/-- R40: a state "reachable from `Reset`". -/
def Reachable (t : State) : Prop := ∃ c moves drawn ks, Path (State.afterReset c moves drawn) ks t

/-- R12: how many `Cycle` steps there are among `ks`. -/
def cycles (ks : List StepKind) : Nat := ks.count .cycle

/-- How many `Service` steps there are among `ks`. -/
def services (ks : List StepKind) : Nat := ks.count .service

/-- How often the event `e` has been emitted since `Reset` (R13). -/
def State.emitted (e : Event) (s : State) : Nat := s.trace.count (.event e)

/-- The trace of `s` with a response after it. -/
def State.answered (st : Status) (v : U64) (s : State) : List Obs := .response ⟨st, v⟩ :: s.trace

/-- The step's own entry in the trace. -/
def State.stepped (k : StepKind) (s : State) : List Obs := .step k :: s.trace

/-! ### What the spec allows, without the model's own fields -/

/-- R11: which steps may come next. -/
def Enabled (s : State) : StepKind → Prop
  | .reset => True
  | .service => s.irq = true
  | .cycle => s.irq = false
  | .cmd _ => s.irq = false ∧ s.waiting = false
  | .waitDone => s.irq = false ∧ s.waiting = true ∧ s.deadline.toNat ≤ s.ms.toNat

/-- R9, R11: the runs the spec allows: at every step some enabled kind is taken, whatever the agenda, the
draws and the polling of the model say. -/
inductive Allowed : State → List StepKind → State → Prop where
  | done (s : State) : Allowed s [] s
  | cons {s u t : State} {k : StepKind} {ks : List StepKind} :
    Enabled s k → take k s = .next u → Allowed u ks t → Allowed s (k :: ks) t

/-- `u` is `s` but for what the spec does not give the block: the agenda, the draws and the polling. -/
def State.sameBlock (s u : State) : Prop := u = { s with agenda := u.agenda, draws := u.draws, poll := u.poll }

/-! ### The host's commands, by what they may do -/

/-- R75, column "needs", and R77. -/
def availableUnder (k : Sink) : Instr → Bool
  | .tmrStart => true
  | .tmrStop => true
  | .tmrSetPeriod _ => true
  | .tmrGetPeriod => true
  | .tmrGetCount => true
  | .tmrIrqOn => true
  | .tmrIrqOff => true
  | .tmrClrFlag => true
  | .tmrFlag => true
  | .mscInit _ => clockPresent k
  | .mscNow => clockPresent k
  | .mscWait _ => clockPresent k
  | .texSetPeriod _ => dispatcherPresent k
  | .srvInit => servoPresent k
  | .srvSetAbs _ => servoPresent k
  | .srvSetRel _ => servoPresent k

/-- The command a step runs, if it runs one. -/
def StepKind.command : StepKind → Option Instr
  | .cmd w =>
    match decode w with
    | .ok i => some i
    | .error _ => none
  | .reset => none
  | .cycle => none
  | .service => none
  | .waitDone => none

/-- R24: the commands that set `IE`. -/
def setsIe : Instr → Bool
  | .tmrIrqOn => true
  | .mscInit _ => true
  | .mscNow => true
  | .mscWait _ => true
  | .texSetPeriod _ => true
  | .srvInit => true
  | .tmrStart => false
  | .tmrStop => false
  | .tmrSetPeriod _ => false
  | .tmrGetPeriod => false
  | .tmrGetCount => false
  | .tmrIrqOff => false
  | .tmrClrFlag => false
  | .tmrFlag => false
  | .srvSetAbs _ => false
  | .srvSetRel _ => false

/-- R23: the commands that start the timer. -/
def startsTimer : Instr → Bool
  | .tmrStart => true
  | .mscInit _ => true
  | .srvInit => true
  | .tmrStop => false
  | .tmrSetPeriod _ => false
  | .tmrGetPeriod => false
  | .tmrGetCount => false
  | .tmrIrqOn => false
  | .tmrIrqOff => false
  | .tmrClrFlag => false
  | .tmrFlag => false
  | .mscNow => false
  | .mscWait _ => false
  | .texSetPeriod _ => false
  | .srvSetAbs _ => false
  | .srvSetRel _ => false

/-- R26: the commands that clear `FLAG`. -/
def clearsFlag : Instr → Bool
  | .tmrClrFlag => true
  | .tmrFlag => true
  | .mscInit _ => true
  | .tmrStart => false
  | .tmrStop => false
  | .tmrSetPeriod _ => false
  | .tmrGetPeriod => false
  | .tmrGetCount => false
  | .tmrIrqOn => false
  | .tmrIrqOff => false
  | .mscNow => false
  | .mscWait _ => false
  | .texSetPeriod _ => false
  | .srvInit => false
  | .srvSetAbs _ => false
  | .srvSetRel _ => false

/-- R21, R22, R23: the commands that may stop or reprogram a running timer (a start of a running timer
does neither, R101). -/
def disturbsPeriod : Instr → Bool
  | .tmrStop => true
  | .tmrSetPeriod _ => true
  | .mscInit _ => true
  | .srvInit => true
  | .tmrStart => false
  | .tmrGetPeriod => false
  | .tmrGetCount => false
  | .tmrIrqOn => false
  | .tmrIrqOff => false
  | .tmrClrFlag => false
  | .tmrFlag => false
  | .mscNow => false
  | .mscWait _ => false
  | .texSetPeriod _ => false
  | .srvSetAbs _ => false
  | .srvSetRel _ => false

/-- R30: the command that writes `XPERIOD`. -/
def setsExecPeriod : Instr → Bool
  | .texSetPeriod _ => true
  | .tmrStart => false
  | .tmrStop => false
  | .tmrSetPeriod _ => false
  | .tmrGetPeriod => false
  | .tmrGetCount => false
  | .tmrIrqOn => false
  | .tmrIrqOff => false
  | .tmrClrFlag => false
  | .tmrFlag => false
  | .mscInit _ => false
  | .mscNow => false
  | .mscWait _ => false
  | .srvInit => false
  | .srvSetAbs _ => false
  | .srvSetRel _ => false

/-- R28: the command that restarts the count of milliseconds. -/
def initsClock : Instr → Bool
  | .mscInit _ => true
  | .tmrStart => false
  | .tmrStop => false
  | .tmrSetPeriod _ => false
  | .tmrGetPeriod => false
  | .tmrGetCount => false
  | .tmrIrqOn => false
  | .tmrIrqOff => false
  | .tmrClrFlag => false
  | .tmrFlag => false
  | .mscNow => false
  | .mscWait _ => false
  | .texSetPeriod _ => false
  | .srvInit => false
  | .srvSetAbs _ => false
  | .srvSetRel _ => false

/-- R33: an absolute angle below 0. -/
def setsNegativeAngle : Instr → Bool
  | .srvSetAbs a => decide (a < 0)
  | .tmrStart => false
  | .tmrStop => false
  | .tmrSetPeriod _ => false
  | .tmrGetPeriod => false
  | .tmrGetCount => false
  | .tmrIrqOn => false
  | .tmrIrqOff => false
  | .tmrClrFlag => false
  | .tmrFlag => false
  | .mscInit _ => false
  | .mscNow => false
  | .mscWait _ => false
  | .texSetPeriod _ => false
  | .srvInit => false
  | .srvSetRel _ => false

/-- No step of `ks` is a `Reset`. -/
def noReset (ks : List StepKind) : Prop := StepKind.reset ∉ ks

/-- No step of `ks` runs a command of the class `p`. -/
def noCommand (p : Instr → Bool) (ks : List StepKind) : Prop :=
  ∀ k ∈ ks, ∀ i, k.command = some i → p i = false

/-- R167: the commands a host may issue without disturbing the waveform: those that touch neither the
timer's fields nor `IE`. Under `SERVO` the commands of the other sinks are refused and touch nothing. -/
def disturbsWaveform : Instr → Bool
  | .tmrStart => true
  | .tmrStop => true
  | .tmrSetPeriod _ => true
  | .tmrIrqOn => true
  | .tmrIrqOff => true
  | .tmrClrFlag => true
  | .tmrFlag => true
  | .srvInit => true
  | .tmrGetPeriod => false
  | .tmrGetCount => false
  | .mscInit _ => false
  | .mscNow => false
  | .mscWait _ => false
  | .texSetPeriod _ => false
  | .srvSetAbs _ => false
  | .srvSetRel _ => false

/-! ### Invariants -/

/-- Has a `SRV.SETABS` with a negative operand been run since `Reset`? Read off the trace; under another
strap than `SERVO` the command is refused and not run (R72, R212). -/
def State.negativeCommanded (s : State) : Bool :=
  servoPresent s.cfg.sink && s.trace.any fun o =>
    match o with
    | .step k =>
      match k.command with
      | some i => setsNegativeAngle i
      | none => false
    | .response _ => false
    | .event _ => false

/-- R40, clause by clause. "`SRV.INIT` has run since `Reset`" (f) is `PIN_OE = 1`: nothing else sets it and
only `Reset` clears it (R36). -/
structure Inv (s : State) : Prop where
  /-- (a), a period in force. -/
  countBelowPeriod : s.xperiod.toNat > 0 → s.xcount.toNat < s.xperiod.toNat
  /-- (a), dispatch disabled. -/
  countPinned : s.xperiod = 0 → s.xcount = 0
  /-- (b). -/
  runHasClock : s.run = true → s.clksrc = true
  /-- (c). -/
  waitHasInterrupt : s.waiting = true → s.ie = true
  /-- (d). -/
  newPosUpper : s.newPos.toInt ≤ 180
  /-- (d). -/
  curPosUpper : s.curPos.toInt ≤ 180
  /-- (e). -/
  pinIsPhase : s.pin = true ↔ s.phase = .lowPending
  /-- (f), the sum. -/
  widthsSum : s.pinOe = true → ((s.onTime.toNat + s.offTime.toNat : Nat) : Int) % 2 ^ 32 = (s.cfg.pwmPeriod : Int) % 2 ^ 32
  /-- (f), the high width. -/
  onTimeIsLatched : s.pinOe = true →
    (s.onTime.toNat : Int) = ((s.cfg.minPulse : Int) + s.curPos.toInt * (s.cfg.oneDegreeIncrement : Int)) % 2 ^ 32
  /-- (g). -/
  newPosLower : s.negativeCommanded = false → 0 ≤ s.newPos.toInt
  /-- (g). -/
  curPosLower : s.negativeCommanded = false → 0 ≤ s.curPos.toInt

/-- The clock's fields are at their reset values. -/
def State.clockAtReset (s : State) : Prop := s.ms = 0 ∧ s.waiting = false ∧ s.deadline = 0

/-- The dispatcher's fields are at their reset values. -/
def State.dispatcherAtReset (s : State) : Prop := s.xperiod = 0 ∧ s.xcount = 0

/-- The servo's fields are at their reset values. -/
def State.servoAtReset (s : State) : Prop :=
  s.onTime = 0 ∧ s.offTime = 0 ∧ s.newPos = 0 ∧ s.curPos = 0 ∧ s.phase = .highPending ∧ s.pin = false ∧ s.pinOe = false

/-- R37, U15: the fields of the sinks not selected stay at their reset values. -/
def Unselected (s : State) : Prop :=
  match s.cfg.sink with
  | .none => s.clockAtReset ∧ s.dispatcherAtReset ∧ s.servoAtReset
  | .msClock => s.dispatcherAtReset ∧ s.servoAtReset
  | .timedExec => s.servoAtReset
  | .servo => s.clockAtReset ∧ s.dispatcherAtReset

end Sys2Proof.Machine
end

