-- ==== Sys2Proof/Certificates/Slice0/Obligations.lean ====
section
/-! DEFINITION. The statements for the provers, each with the rules of the spec it formalises. The
model's own choices are named by their log entry in notes/assumptions/. -/

open Sys2Proof Sys2Proof.Machine

/-! ### Encoding (R70 to R79) -/

/-- R70, R71, R75, R79: For each of the sixteen commands with its operand anywhere in the range of its format,
decode of encode is that command with that operand. -/
def Obligations.DecodeOfEncodeIsTheCommand : Prop :=
  ∀ i : Instr, i.wellFormed = true → decode (encode i) = .ok i

/-- R70, R71, R75, R78, R79: If a 40-bit word decodes to a command, the command is well formed; its encoding is the
same word in formats U and S, and the word's opcode over an ARG of 0 in format N. -/
def Obligations.EncodeOfDecodeIsTheWord : Prop :=
  ∀ (w : Word40) (i : Instr), decode w = .ok i →
    i.wellFormed = true ∧ encode i = (if i.format = .n then (opcodeOf w ++ (0 : U32) : Word40) else w)

/-- R75, R76, R78: A word whose bits 39:32 are one of the sixteen values of R75 decodes to a command; a word with
any of the other 240 values decodes to the error illegalOpcode naming that value. -/
def Obligations.SixteenOpcodesAndNoOther : Prop :=
  ∀ w : Word40,
    ((opcodeOf w).toNat ∈ [0x00, 0x01, 0x02, 0x03, 0x04, 0x05, 0x06, 0x07, 0x08, 0x10, 0x11, 0x12, 0x20, 0x30, 0x31, 0x32] →
      ∃ i, decode w = .ok i) ∧
    ((opcodeOf w).toNat ∉ [0x00, 0x01, 0x02, 0x03, 0x04, 0x05, 0x06, 0x07, 0x08, 0x10, 0x11, 0x12, 0x20, 0x30, 0x31, 0x32] →
      decode w = .error (.illegalOpcode (opcodeOf w)))

/-- R71, R78: Two words with the same opcode decode to the same command if that command is of format N; if it is of
format U or S they decode to the same command only when they are the same word. -/
def Obligations.FormatNIgnoresTheOperandBits : Prop :=
  ∀ (w w' : Word40) (i : Instr), opcodeOf w = opcodeOf w' → decode w = .ok i →
    (i.format = .n → decode w' = .ok i) ∧ (i.format ≠ .n → decode w' = .ok i → w' = w)

/-- R79, spec/95_test_vectors.md: The five example words of R79 and one word of each other unit from the test
vectors decode to the commands written beside them. -/
def Obligations.WordsWrittenInTheSpecDecode : Prop :=
  decode 0x0200000BB8 = .ok (.tmrSetPeriod 3000) ∧ decode 0x10002DC6C0 = .ok (.mscInit 3000000) ∧
  decode 0x31000000C8 = .ok (.srvSetAbs 200) ∧ decode 0x32FFFFFC18 = .ok (.srvSetRel (-1000)) ∧
  decode 0x0000000000 = .ok .tmrStart ∧ decode 0x1200000002 = .ok (.mscWait 2) ∧
  decode 0x2000000003 = .ok (.texSetPeriod 3) ∧ decode 0x3000000000 = .ok .srvInit

/-! ### Which step comes next, and the steps that are not commands (R9 to R14, R100, R135, R203, R230) -/

/-- R9, R11, R76: If the host's next move is the word w, irq does not hold, no wait is in progress and w decodes to
i, then the step is exec of i at the state whose agenda has lost the word and whose trace has gained the step.
The agenda is the model's form of the environment's choice (notes/assumptions/3.md). -/
def Obligations.StepRunsTheDecodedCommand : Prop :=
  ∀ (s : State) (w : Word40) (rest : List Move) (i : Instr),
    s.agenda = .cmd w :: rest → s.irq = false → s.waiting = false → decode w = .ok i →
    step s = exec i { s with agenda := rest, trace := s.stepped (.cmd w) }

/-- R211: If the host's next move is a word whose opcode is not one of the sixteen, irq does not hold and no wait is
in progress, the step answers status ILLEGAL_OPCODE with value 0; every field of the block and its configuration
are as before and no event is emitted. That the word leaves the agenda is the model's form of the host's choice
(notes/assumptions/3.md). -/
def Obligations.IllegalOpcodeIsAnsweredAndChangesNothing : Prop :=
  ∀ (s : State) (w : Word40) (rest : List Move),
    s.agenda = .cmd w :: rest → s.irq = false → s.waiting = false →
    (opcodeOf w).toNat ∉ [0x00, 0x01, 0x02, 0x03, 0x04, 0x05, 0x06, 0x07, 0x08, 0x10, 0x11, 0x12, 0x20, 0x30, 0x31, 0x32] →
    step s = .next { s with agenda := rest, trace := .response ⟨.illegalOpcode, 0⟩ :: s.stepped (.cmd w) }

/-- R212: MSC commands under NONE or SERVO, TEX.SETPERIOD under NONE, MSCLOCK or SERVO, and SRV commands under NONE,
MSCLOCK or TIMEDEXEC answer status SINK_UNAVAILABLE with value 0 and change nothing, for every operand. -/
def Obligations.AbsentSinkIsAnsweredAndChangesNothing : Prop :=
  ∀ s : State,
    (s.cfg.sink = .none ∨ s.cfg.sink = .servo →
      (∀ f, exec (.mscInit f) s = .next { s with trace := s.answered .sinkUnavailable 0 }) ∧
      exec .mscNow s = .next { s with trace := s.answered .sinkUnavailable 0 } ∧
      (∀ d, exec (.mscWait d) s = .next { s with trace := s.answered .sinkUnavailable 0 })) ∧
    (s.cfg.sink = .none ∨ s.cfg.sink = .msClock ∨ s.cfg.sink = .servo →
      ∀ m, exec (.texSetPeriod m) s = .next { s with trace := s.answered .sinkUnavailable 0 }) ∧
    (s.cfg.sink = .none ∨ s.cfg.sink = .msClock ∨ s.cfg.sink = .timedExec →
      exec .srvInit s = .next { s with trace := s.answered .sinkUnavailable 0 } ∧
      (∀ a, exec (.srvSetAbs a) s = .next { s with trace := s.answered .sinkUnavailable 0 }) ∧
      (∀ d, exec (.srvSetRel d) s = .next { s with trace := s.answered .sinkUnavailable 0 }))

/-- R11, R201, R206: If FLAG = 1 and IE = 1, then with a Reset at once next on the agenda the step is Reset;
otherwise it is Service, which answers a next state, leaves FLAG = 0 and makes no move of the agenda, so that a
Reset waiting there is the step after it. That Service takes nothing off the agenda, and that the agenda tells a
Reset at once from one after the Service, are the model's choices (notes/assumptions/3.md). -/
def Obligations.ServiceIsForcedWhileIrqHolds : Prop :=
  ∀ s : State, s.flag = true → s.ie = true →
    (∀ rest, s.agenda = .resetAtOnce :: rest → s.nextKind = .reset) ∧
    ((∀ rest, s.agenda ≠ .resetAtOnce :: rest) →
      s.nextKind = .service ∧ ∃ t, step s = .next t ∧ t.flag = false ∧ t.agenda = s.agenda ∧
        (∀ rest, s.agenda = .reset :: rest → t.nextKind = .reset))

/-- R9, R11, R29, R206, R213: Every step is one that R11 enables; every run of the block is one R11 allows, and
every run R11 allows, in whatever order its Cycles, commands, WaitDones, Resets and Services come, is a run of
the block under some agenda, with the same end but for the agenda. If irq does not hold, Service is not taken. A
Reset or a Cycle at the head of the agenda is made, a command if WAITING = 0, a WaitDone if WAITING = 1 and MS
>= DEADLINE. A head that is not enabled stays there and the step is Cycle, or WaitDone where that is enabled. A
step that is a command has WAITING = 0 and a step that is WaitDone has WAITING = 1 and MS >= DEADLINE. That a
held head stays is the model's form of a hold (notes/assumptions/3.md). -/
def Obligations.EnabledMovesAreMadeAndOthersHeld : Prop :=
  (∀ s : State, Enabled s s.nextKind) ∧
  (∀ (s t : State) (ks : List StepKind), Path s ks t → ∃ u, Allowed s ks u ∧ u.sameBlock t) ∧
  (∀ (s t : State) (ks : List StepKind), Allowed s ks t →
    ∃ moves, Path { s with agenda := moves } ks { t with agenda := [] }) ∧
  ∀ s : State, (s.flag && s.ie) = false →
    s.nextKind ≠ .service ∧
    (∀ rest, s.agenda = .resetAtOnce :: rest → s.nextKind = .reset) ∧
    (∀ rest, s.agenda = .reset :: rest → s.nextKind = .reset) ∧
    (∀ rest, s.agenda = .cycle :: rest → s.nextKind = .cycle) ∧
    (∀ w rest, s.agenda = .cmd w :: rest → s.waiting = false → s.nextKind = .cmd w) ∧
    (∀ rest, s.agenda = .waitDone :: rest → s.waiting = true → s.deadline.toNat ≤ s.ms.toNat → s.nextKind = .waitDone) ∧
    (∀ w rest, s.agenda = .cmd w :: rest → s.waiting = true →
      (s.nextKind = .cycle ∨ s.nextKind = .waitDone) ∧ ∃ t, step s = .next t ∧ t.agenda = s.agenda) ∧
    (∀ rest, s.agenda = .waitDone :: rest → ¬ (s.waiting = true ∧ s.deadline.toNat ≤ s.ms.toNat) →
      s.nextKind = .cycle ∧ ∃ t, step s = .next t ∧ t.agenda = s.agenda) ∧
    (∀ w, s.nextKind = .cmd w → s.waiting = false) ∧
    (s.nextKind = .waitDone → s.waiting = true ∧ s.deadline.toNat ≤ s.ms.toNat)

/-- R12, R14, R213: From every state, reachable or not, step answers a next state, and so does every command; and
from every state there is a number such that every run of at least that many steps has a Cycle among them (R12:
Cycle steps keep happening). That the agenda is a finite list is the model's choice (notes/assumptions/3.md). -/
def Obligations.TheBlockNeverHalts : Prop :=
  (∀ s : State, ∃ t, step s = .next t) ∧ (∀ (i : Instr) (s : State), ∃ t, exec i s = .next t) ∧
  (∀ s : State, ∃ n : Nat, ∀ (ks : List StepKind) (t : State), Path s ks t → n ≤ ks.length → .cycle ∈ ks)

/-- R100: If irq does not hold and the next move is a Cycle, the step is Cycle. Whenever the step is Cycle, made by
the environment or by the clock on its own, irq does not hold; with RUN = 0 no field of the block changes; with
RUN = 1 COUNT becomes RELOAD if it was 0 and one less otherwise, FLAG is set if the new COUNT is 0 and kept
otherwise, and no other field of the block changes. A Cycle at the head of the agenda is taken off it, and no
other move is; the agenda, the draws and the polling are the model's own (notes/assumptions/3.md and 4.md). -/
def Obligations.CycleCountsAndRaisesTheFlag : Prop :=
  (∀ (s : State) (rest : List Move), s.agenda = .cycle :: rest → s.irq = false → s.nextKind = .cycle) ∧
  ∀ s : State, s.nextKind = .cycle → s.irq = false ∧
    ∃ (a : List Move) (d : Nat) (p : Option Nat),
      (∀ rest, s.agenda = .cycle :: rest → a = rest ∧ d = s.draws ∧ p = s.poll) ∧
      ((∀ rest, s.agenda ≠ .cycle :: rest) → a = s.agenda) ∧
      (s.run = false → step s = .next { s with agenda := a, draws := d, poll := p, trace := s.stepped .cycle }) ∧
      (s.run = true → ∃ c : U24,
        c.toNat = (if s.count.toNat = 0 then s.reload.toNat else s.count.toNat - 1) ∧
        step s = .next { s with
          count := c, flag := s.flag || decide (c = 0), agenda := a, draws := d, poll := p, trace := s.stepped .cycle })

/-- R12, R135: If irq does not hold, WAITING = 1, MS >= DEADLINE and the next move is WaitDone, the step is
WaitDone. Whenever the step is WaitDone, these hold, WAITING is cleared, (OK, 0) is answered and no other field
of the block changes; the host's polling ends. From every state with WAITING = 1 and MS >= DEADLINE there is a
number such that every run with that many Cycle steps has a WaitDone among its steps, unless it has a Reset or
so many Service steps that MS may have wrapped. That number is a free value's (notes/assumptions/4.md). -/
def Obligations.WaitDoneAnswersTheWait : Prop :=
  (∀ (s : State) (rest : List Move), s.agenda = .waitDone :: rest → s.irq = false → s.waiting = true →
    s.deadline.toNat ≤ s.ms.toNat → s.nextKind = .waitDone) ∧
  (∀ s : State, s.nextKind = .waitDone →
    s.irq = false ∧ s.waiting = true ∧ s.deadline.toNat ≤ s.ms.toNat ∧
    ∃ (a : List Move) (d : Nat),
      (∀ rest, s.agenda = .waitDone :: rest → a = rest ∧ d = s.draws) ∧
      ((∀ rest, s.agenda ≠ .waitDone :: rest) → a = s.agenda) ∧
      step s = .next { s with
        waiting := false, agenda := a, draws := d, poll := none, trace := .response ⟨.ok, 0⟩ :: s.stepped .waitDone }) ∧
  ∀ s : State, s.waiting = true → s.deadline.toNat ≤ s.ms.toNat →
    ∃ n : Nat, ∀ (ks : List StepKind) (t : State), Path s ks t → noReset ks → s.ms.toNat + services ks < 2 ^ 64 →
      n ≤ cycles ks → .waitDone ∈ ks

/-- R130, R203, R204: With FLAG = 1 and IE = 1 and no Reset at once next: under NONE the step clears FLAG and
changes no other field; under MSCLOCK it clears FLAG and sets MS to MS + 1 modulo 2^64 and changes no other
field. IE is as before, nothing is saved, and no event is emitted. -/
def Obligations.ServiceUnderNoneAndMsClock : Prop :=
  ∀ s : State, s.flag = true → s.ie = true → (∀ rest, s.agenda ≠ .resetAtOnce :: rest) →
    (s.cfg.sink = .none → step s = .next { s with flag := false, trace := s.stepped .service }) ∧
    (s.cfg.sink = .msClock → ∃ m : U64, m.toNat = (s.ms.toNat + 1) % 2 ^ 64 ∧
      step s = .next { s with flag := false, ms := m, trace := s.stepped .service })

/-- R130, R150, R152, R203: With FLAG = 1 and IE = 1, no Reset at once next, and XCOUNT < XPERIOD if XPERIOD > 0
(invariant R40 (a)): FLAG is cleared and MS becomes MS + 1 modulo 2^64. If XPERIOD = 0, XCOUNT is set to 0 and
nothing is emitted; if XCOUNT + 1 = XPERIOD, XCOUNT becomes 0 and one ExecCb is emitted; otherwise XCOUNT grows
by 1 and nothing is emitted. No other field changes. -/
def Obligations.ServiceUnderTimedExec : Prop :=
  ∀ s : State, s.flag = true → s.ie = true → (∀ rest, s.agenda ≠ .resetAtOnce :: rest) → s.cfg.sink = .timedExec →
    (s.xperiod.toNat > 0 → s.xcount.toNat < s.xperiod.toNat) →
    ∃ m : U64, m.toNat = (s.ms.toNat + 1) % 2 ^ 64 ∧
      (s.xperiod.toNat = 0 →
        step s = .next { s with flag := false, ms := m, xcount := 0, trace := s.stepped .service }) ∧
      (s.xperiod.toNat > 0 → s.xcount.toNat + 1 = s.xperiod.toNat →
        step s = .next { s with flag := false, ms := m, xcount := 0, trace := .event .execCb :: s.stepped .service }) ∧
      (s.xperiod.toNat > 0 → s.xcount.toNat + 1 ≠ s.xperiod.toNat →
        ∃ x : U32, x.toNat = s.xcount.toNat + 1 ∧
          step s = .next { s with flag := false, ms := m, xcount := x, trace := s.stepped .service })

/-- R110, R160, R165, R203: With FLAG = 1, IE = 1, no Reset at once next, SINK = SERVO and PHASE = HIGH_PENDING:
FLAG is cleared, CUR_POS becomes NEW_POS, ON_TIME becomes MIN_PULSE + NEW_POS * ONE_DEGREE_INCREMENT and
OFF_TIME becomes PWM_PERIOD - ON_TIME, each modulo 2^32, PIN is 1 with one PinHigh event, RELOAD is ON_TIME - 1
modulo 2^24, COUNT is 0, RUN and CLKSRC are 1, PHASE is LOW_PENDING, and no other field changes. -/
def Obligations.ServoServiceBeginsTheHighPulse : Prop :=
  ∀ s : State, s.flag = true → s.ie = true → (∀ rest, s.agenda ≠ .resetAtOnce :: rest) → s.cfg.sink = .servo →
    s.phase = .highPending →
    ∃ (on off : U32) (r : U24),
      (on.toNat : Int) = ((s.cfg.minPulse : Int) + s.newPos.toInt * (s.cfg.oneDegreeIncrement : Int)) % 2 ^ 32 ∧
      (off.toNat : Int) = ((s.cfg.pwmPeriod : Int) - (on.toNat : Int)) % 2 ^ 32 ∧
      (r.toNat : Int) = ((on.toNat : Int) - 1) % 2 ^ 24 ∧
      step s = .next { s with
        flag := false, curPos := s.newPos, onTime := on, offTime := off, pin := true, reload := r, count := 0,
        run := true, clksrc := true, phase := .lowPending, trace := .event .pinHigh :: s.stepped .service }

/-- R110, R165, R203: With FLAG = 1, IE = 1, no Reset at once next, SINK = SERVO and PHASE = LOW_PENDING: FLAG is
cleared, PIN is 0 with one PinLow event, RELOAD is OFF_TIME - 1 modulo 2^24, COUNT is 0, RUN and CLKSRC are 1,
PHASE is HIGH_PENDING, and no other field changes; the angles and the widths are as before. -/
def Obligations.ServoServiceBeginsTheLowRemainder : Prop :=
  ∀ s : State, s.flag = true → s.ie = true → (∀ rest, s.agenda ≠ .resetAtOnce :: rest) → s.cfg.sink = .servo →
    s.phase = .lowPending →
    ∃ r : U24, (r.toNat : Int) = ((s.offTime.toNat : Int) - 1) % 2 ^ 24 ∧
      step s = .next { s with
        flag := false, pin := false, reload := r, count := 0, run := true, clksrc := true, phase := .highPending
        trace := .event .pinLow :: s.stepped .service }

/-- R42, R230: In every state, a pending Service and a wait in progress included, a Reset at once next on the agenda
takes every field to the value of R42 and empties the trace without a response; the strap and the parameters are
unchanged. So does the other Reset of the agenda where no Service is pending. The two moves, and that the moves
still to come and the count of draws stay, are the model's choices (notes/assumptions/3.md and 4.md). -/
def Obligations.ResetPutsEveryFieldAtItsResetValue : Prop :=
  ∀ (s : State) (rest : List Move),
    (s.agenda = .resetAtOnce :: rest ∨ (s.agenda = .reset :: rest ∧ (s.flag && s.ie) = false)) →
    step s = .next
      { reload := 0, count := 0, run := false, ie := false, clksrc := false, flag := false, ms := 0
        waiting := false, deadline := 0, xperiod := 0, xcount := 0, onTime := 0, offTime := 0, newPos := 0
        curPos := 0, phase := .highPending, pin := false, pinOe := false, cfg := s.cfg, agenda := rest
        draws := s.draws, poll := none, trace := [] }

/-- R42, R6: The state the model starts from has every field of R20 at its value of R42 and an empty trace; its
outputs are an inactive interrupt line and an undriven servo line. The strap NONE, the empty agenda and the
values of draws and poll are the model's choices (notes/assumptions/2.md, 3.md and 4.md). -/
def Obligations.TheResetStateHasTheResetValues : Prop :=
  State.reset =
    { reload := 0, count := 0, run := false, ie := false, clksrc := false, flag := false, ms := 0
      waiting := false, deadline := 0, xperiod := 0, xcount := 0, onTime := 0, offTime := 0, newPos := 0
      curPos := 0, phase := .highPending, pin := false, pinOe := false, cfg := Config.default, agenda := []
      draws := 0, poll := none, trace := [] } ∧
  Config.default.sink = .none ∧ State.reset.irqOut = false ∧ State.reset.servoOut = none

/-! ### The sixteen commands (R101 to R109, R131 to R133, R151, R161 to R163) -/

/-- R101: Opcode 0x00 is TMR.START. It answers (OK, 0), sets RUN and CLKSRC, sets COUNT to 0 if RUN was 0 and leaves
it if RUN was 1, and changes no other field, under every strap. -/
def Obligations.TmrStartRunsAndClearsAStoppedCount : Prop :=
  (∀ w : Word40, opcodeOf w = 0x00 → decode w = .ok .tmrStart) ∧
  ∀ s : State, exec .tmrStart s = .next { s with
    run := true, clksrc := true, count := if s.run = true then s.count else 0, trace := s.answered .ok 0 }

/-- R102: Opcode 0x01 is TMR.STOP. It answers (OK, 0), clears RUN, and changes no other field, under every strap. -/
def Obligations.TmrStopClearsRunAndNothingElse : Prop :=
  (∀ w : Word40, opcodeOf w = 0x01 → decode w = .ok .tmrStop) ∧
  ∀ s : State, exec .tmrStop s = .next { s with run := false, trace := s.answered .ok 0 }

/-- R103: Opcode 0x02 is TMR.SETPERIOD with the unsigned operand ARG. It answers (OK, 0), sets RELOAD to p - 1
modulo 2^24 (0xFFFFFF for p = 0), and changes no other field, for every p and under every strap. -/
def Obligations.TmrSetPeriodStoresThePeriodLessOne : Prop :=
  (∀ w : Word40, opcodeOf w = 0x02 → decode w = .ok (.tmrSetPeriod (argOf w).toNat)) ∧
  ∀ (p : Nat) (s : State), ∃ r : U24, (r.toNat : Int) = ((p : Int) - 1) % 2 ^ 24 ∧
    exec (.tmrSetPeriod p) s = .next { s with reload := r, trace := s.answered .ok 0 }

/-- R104, R105: Opcode 0x03 is TMR.GETPERIOD and 0x04 TMR.GETCOUNT. They answer OK with RELOAD + 1, which may be
2^24, and with COUNT; no field changes, FLAG included, under every strap. -/
def Obligations.TmrReadsAnswerPeriodAndCount : Prop :=
  (∀ w : Word40, opcodeOf w = 0x03 → decode w = .ok .tmrGetPeriod) ∧
  (∀ w : Word40, opcodeOf w = 0x04 → decode w = .ok .tmrGetCount) ∧
  ∀ s : State,
    (∃ v : U64, v.toNat = s.reload.toNat + 1 ∧ exec .tmrGetPeriod s = .next { s with trace := s.answered .ok v }) ∧
    (∃ v : U64, v.toNat = s.count.toNat ∧ exec .tmrGetCount s = .next { s with trace := s.answered .ok v })

/-- R106, R107: Opcode 0x05 is TMR.IRQON and 0x06 TMR.IRQOFF. Each answers (OK, 0), writes IE, and changes no other
field, FLAG included, under every strap. -/
def Obligations.TmrIrqOnAndOffWriteTheGate : Prop :=
  (∀ w : Word40, opcodeOf w = 0x05 → decode w = .ok .tmrIrqOn) ∧
  (∀ w : Word40, opcodeOf w = 0x06 → decode w = .ok .tmrIrqOff) ∧
  ∀ s : State,
    exec .tmrIrqOn s = .next { s with ie := true, trace := s.answered .ok 0 } ∧
    exec .tmrIrqOff s = .next { s with ie := false, trace := s.answered .ok 0 }

/-- R74, R108, R109: Opcode 0x07 is TMR.CLRFLAG, which answers (OK, 0), and 0x08 TMR.FLAG, which answers OK with 1
if FLAG was 1 and 0 if it was 0. Both clear FLAG and change no other field, under every strap. -/
def Obligations.TmrFlagCommandsClearTheFlag : Prop :=
  (∀ w : Word40, opcodeOf w = 0x07 → decode w = .ok .tmrClrFlag) ∧
  (∀ w : Word40, opcodeOf w = 0x08 → decode w = .ok .tmrFlag) ∧
  ∀ s : State,
    exec .tmrClrFlag s = .next { s with flag := false, trace := s.answered .ok 0 } ∧
    (s.flag = true → exec .tmrFlag s = .next { s with flag := false, trace := s.answered .ok 1 }) ∧
    (s.flag = false → exec .tmrFlag s = .next { s with flag := false, trace := s.answered .ok 0 })

/-- R131: Opcode 0x10 is MSC.INIT with the unsigned operand ARG. Under MSCLOCK or TIMEDEXEC it answers (OK, 0) and
leaves MS = 0, RELOAD = (f div 1000) - 1 modulo 2^24, COUNT = 0, RUN = IE = CLKSRC = 1, FLAG = 0; no other field
changes, the wait's and the dispatcher's included. -/
def Obligations.MscInitRestartsTheClock : Prop :=
  (∀ w : Word40, opcodeOf w = 0x10 → decode w = .ok (.mscInit (argOf w).toNat)) ∧
  ∀ (f : Nat) (s : State), s.cfg.sink = .msClock ∨ s.cfg.sink = .timedExec →
    ∃ r : U24, (r.toNat : Int) = (((f / 1000 : Nat) : Int) - 1) % 2 ^ 24 ∧
      exec (.mscInit f) s = .next { s with
        ms := 0, reload := r, count := 0, run := true, ie := true, clksrc := true, flag := false
        trace := s.answered .ok 0 }

/-- R74, R132, R242: Opcode 0x11 is MSC.NOW. Under MSCLOCK or TIMEDEXEC it answers OK with the 64 bits of MS and
leaves IE = 1; no other field changes, FLAG included. -/
def Obligations.MscNowAnswersMsAndEnablesTheInterrupt : Prop :=
  (∀ w : Word40, opcodeOf w = 0x11 → decode w = .ok .mscNow) ∧
  ∀ s : State, s.cfg.sink = .msClock ∨ s.cfg.sink = .timedExec →
    exec .mscNow s = .next { s with ie := true, trace := s.answered .ok s.ms }

/-- R133, R242: Opcode 0x12 is MSC.WAIT with the unsigned operand ARG. Under MSCLOCK or TIMEDEXEC it sets IE and
WAITING and sets DEADLINE to MS + d modulo 2^64; no other field changes and the trace is as before: no response
is given in this step. -/
def Obligations.MscWaitHoldsThePortWithoutAnAnswer : Prop :=
  (∀ w : Word40, opcodeOf w = 0x12 → decode w = .ok (.mscWait (argOf w).toNat)) ∧
  ∀ (d : Nat) (s : State), s.cfg.sink = .msClock ∨ s.cfg.sink = .timedExec →
    ∃ x : U64, x.toNat = (s.ms.toNat + d) % 2 ^ 64 ∧
      exec (.mscWait d) s = .next { s with ie := true, deadline := x, waiting := true }

/-- R151, R242: Opcode 0x20 is TEX.SETPERIOD with the unsigned operand ARG. Under TIMEDEXEC, for every operand m
below 2^32, it answers (OK, 0) and leaves XPERIOD = m, XCOUNT = 0, IE = 1; no other field changes. -/
def Obligations.TexSetPeriodRestartsTheCount : Prop :=
  (∀ w : Word40, opcodeOf w = 0x20 → decode w = .ok (.texSetPeriod (argOf w).toNat)) ∧
  ∀ (m : Nat) (s : State), m < 2 ^ 32 → s.cfg.sink = .timedExec →
    ∃ x : U32, x.toNat = m ∧
      exec (.texSetPeriod m) s = .next { s with xperiod := x, xcount := 0, ie := true, trace := s.answered .ok 0 }

/-- R160, R161: Opcode 0x30 is SRV.INIT. Under SERVO it emits PinLow then PinHigh, answers (OK, 90) and leaves
NEW_POS = CUR_POS = 90, ON_TIME and OFF_TIME the widths of 90 degrees modulo 2^32, RELOAD = ON_TIME - 1 modulo
2^24, COUNT cleared only if the timer was stopped, RUN = IE = CLKSRC = 1, PIN = PIN_OE = 1, PHASE = LOW_PENDING;
no other field changes, FLAG included. -/
def Obligations.SrvInitStartsAtTheCentre : Prop :=
  (∀ w : Word40, opcodeOf w = 0x30 → decode w = .ok .srvInit) ∧
  ∀ s : State, s.cfg.sink = .servo →
    ∃ (on off : U32) (r : U24),
      (on.toNat : Int) = ((s.cfg.minPulse : Int) + 90 * (s.cfg.oneDegreeIncrement : Int)) % 2 ^ 32 ∧
      (off.toNat : Int) = ((s.cfg.pwmPeriod : Int) - (on.toNat : Int)) % 2 ^ 32 ∧
      (r.toNat : Int) = ((on.toNat : Int) - 1) % 2 ^ 24 ∧
      exec .srvInit s = .next { s with
        pinOe := true, pin := true, newPos := 90, curPos := 90, onTime := on, offTime := off, reload := r
        ie := true, count := if s.run = true then s.count else 0, run := true, clksrc := true, phase := .lowPending
        trace := .response ⟨.ok, 90⟩ :: .event .pinHigh :: .event .pinLow :: s.trace }

/-- R162: Opcode 0x31 is SRV.SETABS with the two's complement operand ARG. Under SERVO, for every a from -2^31 to
2^31 - 1, it stores min(a, 180) in NEW_POS, answers OK with that angle sign-extended to 64 bits, and changes no
other field; under another sink it is answered SINK_UNAVAILABLE and changes nothing. -/
def Obligations.SrvSetAbsClampsOnlyAbove : Prop :=
  (∀ w : Word40, opcodeOf w = 0x31 → decode w = .ok (.srvSetAbs (argOf w).toInt)) ∧
  ∀ (a : Int) (s : State), -2 ^ 31 ≤ a → a < 2 ^ 31 →
    (s.cfg.sink ≠ .servo → exec (.srvSetAbs a) s = .next { s with trace := s.answered .sinkUnavailable 0 }) ∧
    (s.cfg.sink = .servo → ∃ (v : S32) (r : U64), v.toInt = min a 180 ∧ r.toInt = v.toInt ∧
      exec (.srvSetAbs a) s = .next { s with newPos := v, trace := s.answered .ok r })

/-- R163: Opcode 0x32 is SRV.SETREL with the two's complement operand ARG. Under SERVO, for every integer d, it
stores max 0 (min (CUR_POS + d) 180) in NEW_POS, the sum taken on integers, answers OK with that angle, and
changes no other field, CUR_POS included; under another sink it is answered SINK_UNAVAILABLE and changes
nothing. -/
def Obligations.SrvSetRelClampsTheExactSum : Prop :=
  (∀ w : Word40, opcodeOf w = 0x32 → decode w = .ok (.srvSetRel (argOf w).toInt)) ∧
  ∀ (d : Int) (s : State),
    (s.cfg.sink ≠ .servo → exec (.srvSetRel d) s = .next { s with trace := s.answered .sinkUnavailable 0 }) ∧
    (s.cfg.sink = .servo → ∃ (v : S32) (r : U64), v.toInt = max 0 (min (s.curPos.toInt + d) 180) ∧ r.toInt = v.toInt ∧
      exec (.srvSetRel d) s = .next { s with newPos := v, trace := s.answered .ok r })

/-! ### Whole-machine rules: who may write what (R6, R21 to R37, R57) -/

/-- R24: If a step changes IE from 0 to 1 it ran TMR.IRQON, MSC.INIT, MSC.NOW, MSC.WAIT, TEX.SETPERIOD or SRV.INIT;
if it changes IE from 1 to 0 it was a Reset or ran TMR.IRQOFF. -/
def Obligations.OnlyIrqOffClearsTheInterruptEnable : Prop :=
  ∀ s t : State, step s = .next t →
    (s.ie = false → t.ie = true → (∃ i, s.nextKind.command = some i ∧ setsIe i = true)) ∧
    (s.ie = true → t.ie = false → s.nextKind = .reset ∨ s.nextKind.command = some .tmrIrqOff)

/-- R26, R205: If a step changes FLAG from 0 to 1 it was a Cycle of a running timer and the new COUNT is 0; every
Cycle of a running timer whose new COUNT is 0 leaves FLAG = 1; if a step changes FLAG from 1 to 0 it was a Reset
or a Service or ran TMR.CLRFLAG, TMR.FLAG or MSC.INIT. -/
def Obligations.OnlyAnExpirySetsTheFlag : Prop :=
  ∀ s t : State, step s = .next t →
    (s.flag = false → t.flag = true → s.nextKind = .cycle ∧ s.run = true ∧ t.count = 0) ∧
    (s.nextKind = .cycle → s.run = true → t.count = 0 → t.flag = true) ∧
    (s.flag = true → t.flag = false →
      s.nextKind = .reset ∨ s.nextKind = .service ∨ (∃ i, s.nextKind.command = some i ∧ clearsFlag i = true))

/-- R25, R36: If a step changes CLKSRC or PIN_OE from 1 to 0 it was a Reset; if it changes PIN_OE from 0 to 1 it ran
SRV.INIT and SINK is SERVO. -/
def Obligations.ClockSourceAndPinEnableAreClearedOnlyByReset : Prop :=
  ∀ s t : State, step s = .next t →
    (s.clksrc = true → t.clksrc = false → s.nextKind = .reset) ∧
    (s.pinOe = true → t.pinOe = false → s.nextKind = .reset) ∧
    (s.pinOe = false → t.pinOe = true → s.nextKind.command = some .srvInit ∧ s.cfg.sink = .servo)

/-- R6, R37, R230: No step, Reset included, changes the strap SINK or a parameter. -/
def Obligations.NoStepChangesTheConfiguration : Prop :=
  ∀ s t : State, step s = .next t → t.cfg = s.cfg

/-- R28, R30, R31, R57: A step that changes MS was a Reset, a Service under MSCLOCK or TIMEDEXEC, or ran MSC.INIT;
one that changes XPERIOD was a Reset or ran TEX.SETPERIOD; one that changes XCOUNT was a Reset, a Service under
TIMEDEXEC, or ran TEX.SETPERIOD. -/
def Obligations.SinkFieldsHaveOnlyTheirOwnWriters : Prop :=
  ∀ s t : State, step s = .next t →
    (t.ms ≠ s.ms → s.nextKind = .reset ∨
      (s.nextKind = .service ∧ (s.cfg.sink = .msClock ∨ s.cfg.sink = .timedExec)) ∨
      (∃ i, s.nextKind.command = some i ∧ initsClock i = true)) ∧
    (t.xperiod ≠ s.xperiod → s.nextKind = .reset ∨ (∃ i, s.nextKind.command = some i ∧ setsExecPeriod i = true)) ∧
    (t.xcount ≠ s.xcount → s.nextKind = .reset ∨ (s.nextKind = .service ∧ s.cfg.sink = .timedExec) ∨
      (∃ i, s.nextKind.command = some i ∧ setsExecPeriod i = true))

/-- R32, R34, R35, R36, R168: A step that is not a Reset, not a servo Service and does not run SRV.INIT leaves
ON_TIME, OFF_TIME, CUR_POS, PHASE and PIN as they were; and a step that runs SRV.SETABS or SRV.SETREL also
leaves RELOAD and COUNT as they were. -/
def Obligations.AnglesAreNotTornMidPulse : Prop :=
  ∀ s t : State, step s = .next t → s.nextKind ≠ .reset →
    (¬ (s.nextKind = .service ∧ s.cfg.sink = .servo) → s.nextKind.command ≠ some .srvInit →
      t.onTime = s.onTime ∧ t.offTime = s.offTime ∧ t.curPos = s.curPos ∧ t.phase = s.phase ∧ t.pin = s.pin) ∧
    ((∃ a, s.nextKind.command = some (.srvSetAbs a) ∨ s.nextKind.command = some (.srvSetRel a)) →
      t.reload = s.reload ∧ t.count = s.count ∧ t.run = s.run ∧ t.flag = s.flag ∧ t.ie = s.ie)

/-- R25: For every state and every value of CLKSRC, the next step is of the same kind, and the two next states are
equal but for CLKSRC. -/
def Obligations.NothingReadsTheClockSourceBit : Prop :=
  ∀ (s : State) (b : Bool), ({ s with clksrc := b } : State).nextKind = s.nextKind ∧
    ∃ t t' : State, step s = .next t ∧ step { s with clksrc := b } = .next t' ∧ t' = { t with clksrc := t'.clksrc }

/-! ### Invariants (R40, U15) -/

/-- R40, R42, spec/93_implementation_defined.md U15: For every configuration, every list of moves and every count of
draws, the state after Reset satisfies R40 (a) to (g) and has the fields of the sinks not selected at their
reset values; State.reset is such a state. -/
def Obligations.ResetStatesMeetTheInvariants : Prop :=
  (∀ (c : Config) (moves : List Move) (drawn : Nat),
    Inv (State.afterReset c moves drawn) ∧ Unselected (State.afterReset c moves drawn)) ∧
  State.reset = State.afterReset Config.default [] 0

/-- R40: If a state satisfies R40 (a) to (g), reachable or not, then so does the state after any step: the
dispatcher's count below its period, a running timer with its clock source, a wait with the interrupt enabled,
the angles' upper bound, PIN equal to the phase, the widths of the latched angle summing to PWM_PERIOD modulo
2^32 once SRV.INIT has run, and the angles' lower bound until a negative SRV.SETABS is run (one refused under
another strap than SERVO is not run). -/
def Obligations.EveryStepKeepsTheInvariants : Prop :=
  ∀ s t : State, Inv s → step s = .next t → Inv t

/-- R37, R77, R203, spec/93_implementation_defined.md U15: Under NONE the clock's, the dispatcher's and the servo's
fields, under MSCLOCK the dispatcher's and the servo's, under TIMEDEXEC the servo's, under SERVO the clock's and
the dispatcher's stay at their reset values, from every state in which they are there. -/
def Obligations.UnselectedSinksStayAtReset : Prop :=
  ∀ s t : State, Unselected s → step s = .next t → Unselected t

/-! ### Runs: order and interrupts (R11, R42, R58, R205, R247) -/

/-- R205: In every run from every state, between one Service step and a later one there is a Cycle step, Resets
between them included; and a Service leaves no interrupt pending, IE as it was, and nothing saved or disabled:
the next step is never a Service. -/
def Obligations.TwoServicesHaveACycleBetween : Prop :=
  (∀ (s t : State) (ks : List StepKind), Path s (.service :: (ks ++ [.service])) t → .cycle ∈ ks) ∧
  (∀ s t : State, step s = .next t → s.nextKind = .service → t.irq = false ∧ t.ie = s.ie ∧ t.nextKind ≠ .service)

/-- R56, R58, R245: In a run from a state with IE = 0 that has no Reset and no command that sets IE, there is no
Service step; IE stays 0, and the fields of the sinks that the handler writes, which are MS, XCOUNT, CUR_POS,
ON_TIME, OFF_TIME, PHASE and PIN, keep their values, whatever the timer does. -/
def Obligations.ACriticalSectionHoldsOffService : Prop :=
  ∀ (s t : State) (ks : List StepKind), s.ie = false → Path s ks t → noReset ks → noCommand setsIe ks →
    services ks = 0 ∧ t.ie = false ∧ t.ms = s.ms ∧ t.xcount = s.xcount ∧ t.curPos = s.curPos ∧
    t.onTime = s.onTime ∧ t.offTime = s.offTime ∧ t.phase = s.phase ∧ t.pin = s.pin

/-- R42, R23, R24, R77: In a run from the state after Reset, for every configuration and environment, if there is a
Service step then the run also has a step with a command that starts the timer and one with a command that sets
IE, each available under the strap, so that it was run and not refused. -/
def Obligations.NoServiceBeforeTheHostStartsAndEnables : Prop :=
  ∀ (c : Config) (moves : List Move) (drawn : Nat) (ks : List StepKind) (t : State),
    Path (State.afterReset c moves drawn) ks t → .service ∈ ks →
    (∃ k ∈ ks, ∃ i, k.command = some i ∧ availableUnder c.sink i = true ∧ startsTimer i = true) ∧
    (∃ k ∈ ks, ∃ i, k.command = some i ∧ availableUnder c.sink i = true ∧ setsIe i = true)

/-- R14, R247: From a state with WAITING = 1, RUN = 0, FLAG = 0 and MS < DEADLINE, every run without a Reset is made
of Cycle steps only and changes no field of the block. R14 does not name FLAG = 0; it is needed (see
StoppedWaitNeverCompletesAsWritten and notes/assumptions/8.md). -/
def Obligations.AWaitOnAStoppedTimerHangs : Prop :=
  ∀ (s t : State) (ks : List StepKind), s.waiting = true → s.run = false → s.flag = false →
    s.ms.toNat < s.deadline.toNat → Path s ks t → noReset ks →
    (∀ k ∈ ks, k = .cycle) ∧ t = { s with agenda := t.agenda, draws := t.draws, poll := t.poll, trace := t.trace }

/-- R14, R133, R203: From every reachable state with WAITING = 1, RUN = 0 and MS < DEADLINE, no run without a Reset
has a WaitDone. This is R14's sentence to the letter, and it is expected to fail: a tick pending from before the
MSC.WAIT is serviced next (R133, R203) and may bring MS to the deadline (notes/assumptions/8.md). -/
def Obligations.StoppedWaitNeverCompletesAsWritten : Prop :=
  ∀ (s t : State) (ks : List StepKind), Reachable s → s.waiting = true → s.run = false →
    s.ms.toNat < s.deadline.toNat → Path s ks t → noReset ks → .waitDone ∉ ks

/-! ### Laws of the sub-blocks (R55, R80, R111, R112, R136, R137, R153, R166, R167, R169) -/

/-- R111: Let COUNT = 0, RUN = 1 and RELOAD = r, and let a run follow with no Reset, no command that stops or
reprograms the timer, and no Service under SERVO. RUN and RELOAD stay, a Service under another sink changes none
of COUNT, RELOAD, RUN, and COUNT after n >= 1 Cycle steps is r - ((n-1) mod (r+1)); and Cycle number n sets FLAG
exactly when n is a multiple of r + 1, leaving it as it was otherwise. -/
def Obligations.ThePeriodLaw : Prop :=
  ∀ (s u : State) (ks : List StepKind), s.run = true → s.count = 0 → Path s ks u → (s.cfg.sink = .servo → services ks = 0) →
    noReset ks → noCommand disturbsPeriod ks →
    u.run = true ∧ u.reload = s.reload ∧
    (cycles ks = 0 → u.count = 0) ∧
    (cycles ks ≥ 1 → u.count.toNat = s.reload.toNat - (cycles ks - 1) % (s.reload.toNat + 1)) ∧
    (∀ t : State, step u = .next t →
      (u.nextKind = .service → s.cfg.sink ≠ .servo → t.count = u.count ∧ t.reload = u.reload ∧ t.run = u.run) ∧
      (u.nextKind = .cycle → t.flag = (u.flag || decide ((cycles ks + 1) % (s.reload.toNat + 1) = 0))))

/-- R112: From every state and for every p, TMR.SETPERIOD p and then TMR.GETPERIOD answers ((p - 1) mod 2^24) + 1;
for an operand p that answer equals p if and only if 1 <= p <= 2^24; for p = 0 it is 16777216 and for p = 2^24 +
k with k >= 1 it is ((k - 1) mod 2^24) + 1. -/
def Obligations.ThePeriodRoundTrip : Prop :=
  ∀ (p : Nat) (s : State), ∃ (t : State) (v : U64),
    exec (.tmrSetPeriod p) s = .next t ∧ exec .tmrGetPeriod t = .next { t with trace := t.answered .ok v } ∧
    (v.toNat : Int) = ((p : Int) - 1) % 2 ^ 24 + 1 ∧ (v.toNat = p ↔ 1 ≤ p ∧ p ≤ 2 ^ 24) ∧
    (p = 0 → v.toNat = 16777216) ∧ (∀ k, 1 ≤ k → p = 2 ^ 24 + k → v.toNat = (k - 1) % 2 ^ 24 + 1)

/-- R130, R132, R136: Under MSCLOCK or TIMEDEXEC, in a run with no Reset and no MSC.INIT, MS at the end is MS at the
start plus the number of Service steps, modulo 2^64; and MSC.NOW at either end answers that MS. -/
def Obligations.MillisecondsCountServices : Prop :=
  ∀ (s t : State) (ks : List StepKind), (s.cfg.sink = .msClock ∨ s.cfg.sink = .timedExec) → Path s ks t →
    noReset ks → noCommand initsClock ks →
    t.ms.toNat = (s.ms.toNat + services ks) % 2 ^ 64 ∧
    exec .mscNow s = .next { s with ie := true, trace := s.answered .ok s.ms } ∧
    exec .mscNow t = .next { t with ie := true, trace := t.answered .ok t.ms }

/-- R111, R131, R201, R235: Under MSCLOCK or TIMEDEXEC, in a run that starts right after MSC.INIT f (f an operand of
at least 1000) with no Reset and no command that stops or reprograms the timer, clears FLAG or clears IE, MS
plus the tick still pending equals the number of Cycle steps divided by f div 1000, rounded down, modulo 2^64:
no tick is lost and none comes early. -/
def Obligations.MillisecondsAreCyclesOverThePeriod : Prop :=
  ∀ (f : Nat) (s0 s t : State) (ks : List StepKind), 1000 ≤ f → f < 2 ^ 32 →
    (s0.cfg.sink = .msClock ∨ s0.cfg.sink = .timedExec) → exec (.mscInit f) s0 = .next s → Path s ks t →
    noReset ks → noCommand (fun i => disturbsPeriod i || clearsFlag i || decide (i = .tmrIrqOff)) ks →
    (t.ms.toNat + (if t.flag = true then 1 else 0)) % 2 ^ 64 = (cycles ks / (f / 1000)) % 2 ^ 64

/-- R133, R135, R137: Under MSCLOCK or TIMEDEXEC let start be MS at an MSC.WAIT d with start + d < 2^64. In the run
that follows, with no Reset and no WaitDone yet, if the next step is the WaitDone then MS >= start + d and at
least d Service steps have been taken; and until then no command is accepted. -/
def Obligations.TheWaitLaw : Prop :=
  ∀ (d : Nat) (s0 s t : State) (ks : List StepKind), d < 2 ^ 32 →
    (s0.cfg.sink = .msClock ∨ s0.cfg.sink = .timedExec) → s0.ms.toNat + d < 2 ^ 64 →
    exec (.mscWait d) s0 = .next s → Path s ks t → noReset ks → .waitDone ∉ ks →
    (t.nextKind = .waitDone → s0.ms.toNat + d ≤ t.ms.toNat ∧ d ≤ services ks) ∧
    (∀ w, .cmd w ∉ ks ∧ t.nextKind ≠ .cmd w)

/-- R150, R151, R153: Under TIMEDEXEC, in a run that starts right after TEX.SETPERIOD k with no Reset and no other
TEX.SETPERIOD, let n be the number of Service steps. If k = 0 no ExecCb is emitted and XCOUNT is 0; if k > 0
exactly n div k have been emitted and XCOUNT is n mod k. Since this holds after every run, the Service steps
that emit are exactly those whose number is a multiple of k. -/
def Obligations.TheDispatchLaw : Prop :=
  ∀ (k : Nat) (s0 s t : State) (ks : List StepKind), k < 2 ^ 32 → s0.cfg.sink = .timedExec →
    exec (.texSetPeriod k) s0 = .next s → Path s ks t → noReset ks → noCommand setsExecPeriod ks →
    t.xperiod.toNat = k ∧
    (k = 0 → t.emitted .execCb = s.emitted .execCb ∧ t.xcount = 0) ∧
    (k > 0 → t.emitted .execCb = s.emitted .execCb + services ks / k ∧ t.xcount.toNat = services ks % k)

/-- R7, R160, R166: With 1 <= MIN_PULSE, MAX_PULSE + 1 <= PWM_PERIOD <= 2^24 and an angle from 0 to 180: the high
width is exactly MIN_PULSE + angle * ONE_DEGREE_INCREMENT, at least 1 and at most MAX_PULSE, the two widths sum
to PWM_PERIOD, and the period the timer counts for each is that width. Outside, the period for 0 is 2^24 and for
0xFFFFFFFF it is 0xFFFFFF. -/
def Obligations.PulseWidthsAreInRange : Prop :=
  (∀ (c : Config) (pos : S32), c.servoWellFormed = true → 0 ≤ pos.toInt → pos.toInt ≤ 180 →
    ((pulse c pos).1.toNat : Int) = (c.minPulse : Int) + pos.toInt * (c.oneDegreeIncrement : Int) ∧
    c.minPulse ≤ (pulse c pos).1.toNat ∧ 1 ≤ (pulse c pos).1.toNat ∧ (pulse c pos).1.toNat ≤ c.maxPulse ∧
    1 ≤ (pulse c pos).2.toNat ∧ (pulse c pos).1.toNat + (pulse c pos).2.toNat = c.pwmPeriod ∧
    periodOf (reloadFor (pulse c pos).1.toNat) = (pulse c pos).1.toNat ∧
    periodOf (reloadFor (pulse c pos).2.toNat) = (pulse c pos).2.toNat) ∧
  periodOf (reloadFor 0) = 2 ^ 24 ∧ periodOf (reloadFor 0xFFFFFFFF) = 0xFFFFFF

/-- R7, R161, R165, R167: Let SRV.INIT run with the timer stopped and no flag pending, SINK = SERVO and a well-
formed configuration, and let a run follow with no Reset and no command that touches the timer's fields or IE,
in which every angle latched is at least 0. Then after n Cycle steps, with on the width of the latched angle:
ON_TIME = on exactly, ON_TIME + OFF_TIME = PWM_PERIOD; with no interrupt pending PIN is 1 exactly when n mod
PWM_PERIOD < on; and an interrupt is pending only at n mod PWM_PERIOD = 0 with n > 0, where the high pulse
begins and the angle is latched, and at n mod PWM_PERIOD = on, where it ends. -/
def Obligations.TheWaveformLaw : Prop :=
  ∀ (s0 s t : State) (ks : List StepKind), s0.cfg.servoWellFormed = true → s0.cfg.sink = .servo →
    s0.run = false → s0.flag = false → exec .srvInit s0 = .next s → Path s ks t → noReset ks →
    noCommand disturbsWaveform ks →
    (∀ (pre : List StepKind) (u : State), pre <+: ks → Path s pre u → 0 ≤ u.curPos.toInt) →
    (t.onTime.toNat : Int) = (t.cfg.minPulse : Int) + t.curPos.toInt * (t.cfg.oneDegreeIncrement : Int) ∧
    t.onTime.toNat + t.offTime.toNat = t.cfg.pwmPeriod ∧
    (t.flag = false → (t.pin = true ↔ cycles ks % t.cfg.pwmPeriod < t.onTime.toNat)) ∧
    (t.flag = true →
      (t.phase = .highPending ∧ 0 < cycles ks ∧ cycles ks % t.cfg.pwmPeriod = 0) ∨
      (t.phase = .lowPending ∧ cycles ks % t.cfg.pwmPeriod = t.onTime.toNat))

/-- R162, R163, R169: Under SERVO: the word 0x31000000C8 stores and answers 180 in every state; 0x32000003E8 stores
and answers 180 whenever CUR_POS >= -820, and less than 180 below that; 0x32FFFFFC18 stores and answers 0
whenever CUR_POS <= 1000. -/
def Obligations.AnglesSaturate : Prop :=
  ∀ s : State, s.cfg.sink = .servo →
    runWord 0x31000000C8 s = .next { s with newPos := 180, trace := s.answered .ok 180 } ∧
    (-820 ≤ s.curPos.toInt → runWord 0x32000003E8 s = .next { s with newPos := 180, trace := s.answered .ok 180 }) ∧
    (s.curPos.toInt < -820 → ∃ (v : S32) (r : U64), v.toInt < 180 ∧ r.toInt = v.toInt ∧
      runWord 0x32000003E8 s = .next { s with newPos := v, trace := s.answered .ok r }) ∧
    (s.curPos.toInt ≤ 1000 → runWord 0x32FFFFFC18 s = .next { s with newPos := 0, trace := s.answered .ok 0 })

/-- R55: For every command but TMR.FLAG and MSC.WAIT, under every strap and for every operand: the second of two in
a row changes no field and adds to the trace exactly what the first added. A second TMR.FLAG changes no field
and answers 0. -/
def Obligations.CommandsIssuedTwiceAreOnce : Prop :=
  (∀ (i : Instr) (s t : State), i ≠ .tmrFlag → (∀ d, i ≠ .mscWait d) → exec i s = .next t →
    ∃ new : List Obs, t.trace = new ++ s.trace ∧ exec i t = .next { t with trace := new ++ t.trace }) ∧
  (∀ s t : State, exec .tmrFlag s = .next t → exec .tmrFlag t = .next { t with trace := t.answered .ok 0 })

/-- R54, R80: Where the command is available: MSC.INIT f leaves what writing MS = 0 and then TMR.STOP, TMR.CLRFLAG,
TMR.SETPERIOD (f div 1000), TMR.IRQON, TMR.START leave; MSC.NOW what TMR.IRQOFF, TMR.IRQON leave; TEX.SETPERIOD
m what TMR.IRQOFF, the writes of XPERIOD and XCOUNT, TMR.IRQON leave; SRV.INIT what the pin set-up and the servo
writes, then TMR.SETPERIOD ON_TIME, TMR.IRQON, TMR.START and the phase write leave. All up to the trace. -/
def Obligations.CompoundCommandsAreTheirSequences : Prop :=
  (∀ (f : Nat) (s a b c d e t : State), (s.cfg.sink = .msClock ∨ s.cfg.sink = .timedExec) →
    exec .tmrStop { s with ms := 0 } = .next a → exec .tmrClrFlag a = .next b →
    exec (.tmrSetPeriod (f / 1000)) b = .next c → exec .tmrIrqOn c = .next d → exec .tmrStart d = .next e →
    exec (.mscInit f) s = .next t → { t with trace := [] } = ({ e with trace := [] } : State)) ∧
  (∀ s a b t : State, (s.cfg.sink = .msClock ∨ s.cfg.sink = .timedExec) →
    exec .tmrIrqOff s = .next a → exec .tmrIrqOn a = .next b → exec .mscNow s = .next t →
    { t with trace := [] } = ({ b with trace := [] } : State)) ∧
  (∀ (m : Nat) (s a b t : State), s.cfg.sink = .timedExec → exec .tmrIrqOff s = .next a →
    exec .tmrIrqOn { a with xperiod := BitVec.ofNat 32 m, xcount := 0 } = .next b →
    exec (.texSetPeriod m) s = .next t → { t with trace := [] } = ({ b with trace := [] } : State)) ∧
  (∀ s a b c t : State, s.cfg.sink = .servo → exec .srvInit s = .next t →
    exec (.tmrSetPeriod t.onTime.toNat)
      { s with pinOe := true, pin := true, newPos := 90, curPos := 90, onTime := t.onTime, offTime := t.offTime } =
        .next a →
    exec .tmrIrqOn a = .next b → exec .tmrStart b = .next c →
    { t with trace := [] } = ({ c with phase := .lowPending, trace := [] } : State))

/-! ### Text (R79, R81) -/

/-- R75, R79: Whatever the text of a line, if it assembles to a word then the word is the encoding of a well-formed
command, to which it decodes; the five example lines of R79 assemble to the words beside them; and a U operand
of 2^32 and S operands of 2^31 and -2^31 - 1 are rejected. -/
def Obligations.AssembledLinesAreEncodedCommands : Prop :=
  (∀ (l : Line) (w : Word40), assemble l = .ok (some w) → ∃ i : Instr, i.wellFormed = true ∧ w = encode i ∧ decode w = .ok i) ∧
  assemble "TMR.SETPERIOD 3000".toList = .ok (some 0x0200000BB8) ∧
  assemble "MSC.INIT 3000000".toList = .ok (some 0x10002DC6C0) ∧
  assemble "SRV.SETABS 200".toList = .ok (some 0x31000000C8) ∧
  assemble "SRV.SETREL -1000".toList = .ok (some 0x32FFFFFC18) ∧
  assemble "TMR.START".toList = .ok (some 0x0000000000) ∧
  assemble "TMR.SETPERIOD 4294967296".toList = .error .operandRange ∧
  assemble "SRV.SETABS 2147483648".toList = .error .operandRange ∧
  assemble "SRV.SETABS -2147483649".toList = .error .operandRange

/-- R11, R81: From every state whose next moves are those of @cycle n and of any directives after it, a run of Cycle
and Service steps only, with exactly n Cycle steps, leads to a state where those n moves have been made and no
others and no Service is pending, even if @reset comes next. At most n of the steps are Service, and one more if
one was pending before. The agenda is the model's form of the script (notes/assumptions/3.md). -/
def Obligations.CycleDirectiveIsCyclesAndTheirServices : Prop :=
  ∀ (n : Nat) (s : State) (script : List Directive), s.agenda = (Directive.cycle n :: script).flatMap Directive.moves →
    ∃ (ks : List StepKind) (t : State), Path s ks t ∧ (∀ k ∈ ks, k = .cycle ∨ k = .service) ∧ cycles ks = n ∧
      services ks ≤ n + (if s.irq = true then 1 else 0) ∧ t.irq = false ∧
      t.agenda = script.flatMap Directive.moves
end

