-- ==== Sys2Proof/Laws/Decode.lean ====
section
/-! SUPPORT. The fields of an encoded word (spec rules R70, R79). -/

namespace Sys2Proof

/-- R79: `OP << 32 | ARG` as a number. -/
theorem append_toNat (op : BitVec 8) (a : U32) : BitVec.toNat (w := 40) (op ++ a) = op.toNat * 2 ^ 32 + a.toNat := by
  have h : BitVec.toNat (w := 40) (op ++ a) = op.toNat <<< 32 ||| a.toNat := BitVec.toNat_append op a
  rw [h, ← Nat.shiftLeft_add_eq_or_of_lt a.isLt, Nat.shiftLeft_eq]

theorem opcodeOf_toNat (w : Word40) : (opcodeOf w).toNat = w.toNat / 2 ^ 32 := by
  have := w.isLt
  simp only [opcodeOf, BitVec.extractLsb'_toNat, Nat.shiftRight_eq_div_pow]
  omega

theorem argOf_toNat (w : Word40) : (argOf w).toNat = w.toNat % 2 ^ 32 := by
  simp [argOf, BitVec.extractLsb'_toNat]

@[simp] theorem opcodeOf_append (op : BitVec 8) (a : U32) : opcodeOf (op ++ a) = op := by
  apply BitVec.eq_of_toNat_eq
  have := a.isLt
  rw [opcodeOf_toNat, append_toNat]
  omega

@[simp] theorem argOf_append (op : BitVec 8) (a : U32) : argOf (op ++ a) = a := by
  apply BitVec.eq_of_toNat_eq
  have := a.isLt
  rw [argOf_toNat, append_toNat]
  omega

/-- A word is its two fields. -/
theorem opcodeOf_append_argOf (w : Word40) : (opcodeOf w ++ argOf w : Word40) = w := by
  apply BitVec.eq_of_toNat_eq
  rw [append_toNat, opcodeOf_toNat, argOf_toNat]
  omega

@[simp] theorem opcodeOf_encode (i : Instr) : opcodeOf (encode i) = i.opcode := opcodeOf_append _ _

@[simp] theorem argOf_encode (i : Instr) : argOf (encode i) = i.arg := argOf_append _ _

end Sys2Proof
end

