-- ==== Sys2Proof/Laws/Operands.lean ====
section
/-! SUPPORT. What each operation of `Machine/Operands.lean` gives, as numbers (spec rules R15, R103, R104,
R160, R162). -/

namespace Sys2Proof.Machine

/-- R15: `trunc_N(v)` is `v mod 2^N`. -/
theorem trunc_toNat (n : Nat) (v : Int) : ((trunc n v).toNat : Int) = v % (2 ^ n : Nat) := by
  unfold trunc
  rw [BitVec.toNat_ofInt]
  exact Int.toNat_of_nonneg (Int.emod_nonneg v (by positivity))

/-- An integer in the range of `s32` survives truncation. -/
theorem trunc_toInt (v : Int) (lo : -2 ^ 31 ≤ v) (hi : v < 2 ^ 31) : (trunc 32 v).toInt = v := by
  unfold trunc
  rw [BitVec.toInt_ofInt]
  apply Int.bmod_eq_of_le <;> norm_num at * <;> omega

theorem zext64_toNat (v : Nat) (h : v < 2 ^ 64) : (zext64 v).toNat = v := by
  rw [zext64, BitVec.toNat_ofNat, Nat.mod_eq_of_lt h]

theorem sext64_toInt (v : S32) : (sext64 v).toInt = v.toInt := by
  unfold sext64
  rw [BitVec.toInt_signExtend_of_le (by norm_num)]

/-- R103: the reload value of period `p`. -/
theorem reloadFor_toNat (p : Nat) : ((reloadFor p).toNat : Int) = ((p : Int) - 1) % 2 ^ 24 := by
  simpa [reloadFor] using trunc_toNat 24 ((p : Int) - 1)

/-- R103, R112: a period in the representable range is stored as it is, less one. -/
theorem reloadFor_toNat_of_mem (p : Nat) (lo : 1 ≤ p) (hi : p ≤ 2 ^ 24) : (reloadFor p).toNat = p - 1 := by
  have h := reloadFor_toNat p
  rw [Int.emod_eq_of_lt (by omega) (by norm_num at *; omega)] at h
  omega

theorem clamp_lower (v lo hi : Int) (h : lo ≤ hi) : lo ≤ clamp v lo hi := by
  unfold clamp; split_ifs <;> omega

theorem clamp_upper (v lo hi : Int) (h : lo ≤ hi) : clamp v lo hi ≤ hi := by
  unfold clamp; split_ifs <;> omega

/-- R162: the upper clamp is the minimum with 180. -/
theorem upperClamp_eq_min (a : Int) : upperClamp a = min a 180 := by
  unfold upperClamp Config.angleMax; split_ifs <;> omega

/-- R160: the high width. -/
theorem pulse_on_toNat (c : Config) (pos : S32) :
    ((pulse c pos).1.toNat : Int) = ((c.minPulse : Int) + pos.toInt * (c.oneDegreeIncrement : Int)) % 2 ^ 32 := by
  simpa [pulse] using trunc_toNat 32 ((c.minPulse : Int) + pos.toInt * (c.oneDegreeIncrement : Int))

/-- R160: the low width. -/
theorem pulse_off_toNat (c : Config) (pos : S32) :
    ((pulse c pos).2.toNat : Int) = ((c.pwmPeriod : Int) - ((pulse c pos).1.toNat : Int)) % 2 ^ 32 := by
  simpa [pulse] using trunc_toNat 32 ((c.pwmPeriod : Int) - ((pulse c pos).1.toNat : Int))

end Sys2Proof.Machine
end

