-- ==== Sys2Proof/Laws/State.lean ====
section
/-! SUPPORT. One lemma per field per update of `State`, for the shared operations that are one record
update: true by `rfl`, so that no later proof unfolds a record update. -/

namespace Sys2Proof.Machine

variable (s : State)

/-! ### `mark` -/

@[simp] theorem State.mark_reload (k : StepKind) : (s.mark k).reload = s.reload := rfl
@[simp] theorem State.mark_count (k : StepKind) : (s.mark k).count = s.count := rfl
@[simp] theorem State.mark_run (k : StepKind) : (s.mark k).run = s.run := rfl
@[simp] theorem State.mark_ie (k : StepKind) : (s.mark k).ie = s.ie := rfl
@[simp] theorem State.mark_clksrc (k : StepKind) : (s.mark k).clksrc = s.clksrc := rfl
@[simp] theorem State.mark_flag (k : StepKind) : (s.mark k).flag = s.flag := rfl
@[simp] theorem State.mark_ms (k : StepKind) : (s.mark k).ms = s.ms := rfl
@[simp] theorem State.mark_waiting (k : StepKind) : (s.mark k).waiting = s.waiting := rfl
@[simp] theorem State.mark_deadline (k : StepKind) : (s.mark k).deadline = s.deadline := rfl
@[simp] theorem State.mark_xperiod (k : StepKind) : (s.mark k).xperiod = s.xperiod := rfl
@[simp] theorem State.mark_xcount (k : StepKind) : (s.mark k).xcount = s.xcount := rfl
@[simp] theorem State.mark_onTime (k : StepKind) : (s.mark k).onTime = s.onTime := rfl
@[simp] theorem State.mark_offTime (k : StepKind) : (s.mark k).offTime = s.offTime := rfl
@[simp] theorem State.mark_newPos (k : StepKind) : (s.mark k).newPos = s.newPos := rfl
@[simp] theorem State.mark_curPos (k : StepKind) : (s.mark k).curPos = s.curPos := rfl
@[simp] theorem State.mark_phase (k : StepKind) : (s.mark k).phase = s.phase := rfl
@[simp] theorem State.mark_pin (k : StepKind) : (s.mark k).pin = s.pin := rfl
@[simp] theorem State.mark_pinOe (k : StepKind) : (s.mark k).pinOe = s.pinOe := rfl
@[simp] theorem State.mark_cfg (k : StepKind) : (s.mark k).cfg = s.cfg := rfl
@[simp] theorem State.mark_agenda (k : StepKind) : (s.mark k).agenda = s.agenda := rfl
@[simp] theorem State.mark_draws (k : StepKind) : (s.mark k).draws = s.draws := rfl
@[simp] theorem State.mark_poll (k : StepKind) : (s.mark k).poll = s.poll := rfl
@[simp] theorem State.mark_trace (k : StepKind) : (s.mark k).trace = .step k :: s.trace := rfl

/-! ### `emit` -/

@[simp] theorem State.emit_reload (e : Event) : (s.emit e).reload = s.reload := rfl
@[simp] theorem State.emit_count (e : Event) : (s.emit e).count = s.count := rfl
@[simp] theorem State.emit_run (e : Event) : (s.emit e).run = s.run := rfl
@[simp] theorem State.emit_ie (e : Event) : (s.emit e).ie = s.ie := rfl
@[simp] theorem State.emit_clksrc (e : Event) : (s.emit e).clksrc = s.clksrc := rfl
@[simp] theorem State.emit_flag (e : Event) : (s.emit e).flag = s.flag := rfl
@[simp] theorem State.emit_ms (e : Event) : (s.emit e).ms = s.ms := rfl
@[simp] theorem State.emit_waiting (e : Event) : (s.emit e).waiting = s.waiting := rfl
@[simp] theorem State.emit_deadline (e : Event) : (s.emit e).deadline = s.deadline := rfl
@[simp] theorem State.emit_xperiod (e : Event) : (s.emit e).xperiod = s.xperiod := rfl
@[simp] theorem State.emit_xcount (e : Event) : (s.emit e).xcount = s.xcount := rfl
@[simp] theorem State.emit_onTime (e : Event) : (s.emit e).onTime = s.onTime := rfl
@[simp] theorem State.emit_offTime (e : Event) : (s.emit e).offTime = s.offTime := rfl
@[simp] theorem State.emit_newPos (e : Event) : (s.emit e).newPos = s.newPos := rfl
@[simp] theorem State.emit_curPos (e : Event) : (s.emit e).curPos = s.curPos := rfl
@[simp] theorem State.emit_phase (e : Event) : (s.emit e).phase = s.phase := rfl
@[simp] theorem State.emit_pin (e : Event) : (s.emit e).pin = s.pin := rfl
@[simp] theorem State.emit_pinOe (e : Event) : (s.emit e).pinOe = s.pinOe := rfl
@[simp] theorem State.emit_cfg (e : Event) : (s.emit e).cfg = s.cfg := rfl
@[simp] theorem State.emit_agenda (e : Event) : (s.emit e).agenda = s.agenda := rfl
@[simp] theorem State.emit_draws (e : Event) : (s.emit e).draws = s.draws := rfl
@[simp] theorem State.emit_poll (e : Event) : (s.emit e).poll = s.poll := rfl
@[simp] theorem State.emit_trace (e : Event) : (s.emit e).trace = .event e :: s.trace := rfl

/-! ### `respond` -/

@[simp] theorem State.respond_reload (st : Status) (v : U64) : (s.respond st v).reload = s.reload := rfl
@[simp] theorem State.respond_count (st : Status) (v : U64) : (s.respond st v).count = s.count := rfl
@[simp] theorem State.respond_run (st : Status) (v : U64) : (s.respond st v).run = s.run := rfl
@[simp] theorem State.respond_ie (st : Status) (v : U64) : (s.respond st v).ie = s.ie := rfl
@[simp] theorem State.respond_clksrc (st : Status) (v : U64) : (s.respond st v).clksrc = s.clksrc := rfl
@[simp] theorem State.respond_flag (st : Status) (v : U64) : (s.respond st v).flag = s.flag := rfl
@[simp] theorem State.respond_ms (st : Status) (v : U64) : (s.respond st v).ms = s.ms := rfl
@[simp] theorem State.respond_waiting (st : Status) (v : U64) : (s.respond st v).waiting = s.waiting := rfl
@[simp] theorem State.respond_deadline (st : Status) (v : U64) : (s.respond st v).deadline = s.deadline := rfl
@[simp] theorem State.respond_xperiod (st : Status) (v : U64) : (s.respond st v).xperiod = s.xperiod := rfl
@[simp] theorem State.respond_xcount (st : Status) (v : U64) : (s.respond st v).xcount = s.xcount := rfl
@[simp] theorem State.respond_onTime (st : Status) (v : U64) : (s.respond st v).onTime = s.onTime := rfl
@[simp] theorem State.respond_offTime (st : Status) (v : U64) : (s.respond st v).offTime = s.offTime := rfl
@[simp] theorem State.respond_newPos (st : Status) (v : U64) : (s.respond st v).newPos = s.newPos := rfl
@[simp] theorem State.respond_curPos (st : Status) (v : U64) : (s.respond st v).curPos = s.curPos := rfl
@[simp] theorem State.respond_phase (st : Status) (v : U64) : (s.respond st v).phase = s.phase := rfl
@[simp] theorem State.respond_pin (st : Status) (v : U64) : (s.respond st v).pin = s.pin := rfl
@[simp] theorem State.respond_pinOe (st : Status) (v : U64) : (s.respond st v).pinOe = s.pinOe := rfl
@[simp] theorem State.respond_cfg (st : Status) (v : U64) : (s.respond st v).cfg = s.cfg := rfl
@[simp] theorem State.respond_agenda (st : Status) (v : U64) : (s.respond st v).agenda = s.agenda := rfl
@[simp] theorem State.respond_draws (st : Status) (v : U64) : (s.respond st v).draws = s.draws := rfl
@[simp] theorem State.respond_poll (st : Status) (v : U64) : (s.respond st v).poll = s.poll := rfl
@[simp] theorem State.respond_trace (st : Status) (v : U64) : (s.respond st v).trace = .response ⟨st, v⟩ :: s.trace := rfl

/-! ### `clearFlag` -/

@[simp] theorem State.clearFlag_reload : (s.clearFlag).reload = s.reload := rfl
@[simp] theorem State.clearFlag_count : (s.clearFlag).count = s.count := rfl
@[simp] theorem State.clearFlag_run : (s.clearFlag).run = s.run := rfl
@[simp] theorem State.clearFlag_ie : (s.clearFlag).ie = s.ie := rfl
@[simp] theorem State.clearFlag_clksrc : (s.clearFlag).clksrc = s.clksrc := rfl
@[simp] theorem State.clearFlag_flag : (s.clearFlag).flag = false := rfl
@[simp] theorem State.clearFlag_ms : (s.clearFlag).ms = s.ms := rfl
@[simp] theorem State.clearFlag_waiting : (s.clearFlag).waiting = s.waiting := rfl
@[simp] theorem State.clearFlag_deadline : (s.clearFlag).deadline = s.deadline := rfl
@[simp] theorem State.clearFlag_xperiod : (s.clearFlag).xperiod = s.xperiod := rfl
@[simp] theorem State.clearFlag_xcount : (s.clearFlag).xcount = s.xcount := rfl
@[simp] theorem State.clearFlag_onTime : (s.clearFlag).onTime = s.onTime := rfl
@[simp] theorem State.clearFlag_offTime : (s.clearFlag).offTime = s.offTime := rfl
@[simp] theorem State.clearFlag_newPos : (s.clearFlag).newPos = s.newPos := rfl
@[simp] theorem State.clearFlag_curPos : (s.clearFlag).curPos = s.curPos := rfl
@[simp] theorem State.clearFlag_phase : (s.clearFlag).phase = s.phase := rfl
@[simp] theorem State.clearFlag_pin : (s.clearFlag).pin = s.pin := rfl
@[simp] theorem State.clearFlag_pinOe : (s.clearFlag).pinOe = s.pinOe := rfl
@[simp] theorem State.clearFlag_cfg : (s.clearFlag).cfg = s.cfg := rfl
@[simp] theorem State.clearFlag_agenda : (s.clearFlag).agenda = s.agenda := rfl
@[simp] theorem State.clearFlag_draws : (s.clearFlag).draws = s.draws := rfl
@[simp] theorem State.clearFlag_poll : (s.clearFlag).poll = s.poll := rfl
@[simp] theorem State.clearFlag_trace : (s.clearFlag).trace = s.trace := rfl

/-! ### `raiseFlag` -/

@[simp] theorem State.raiseFlag_reload : (s.raiseFlag).reload = s.reload := rfl
@[simp] theorem State.raiseFlag_count : (s.raiseFlag).count = s.count := rfl
@[simp] theorem State.raiseFlag_run : (s.raiseFlag).run = s.run := rfl
@[simp] theorem State.raiseFlag_ie : (s.raiseFlag).ie = s.ie := rfl
@[simp] theorem State.raiseFlag_clksrc : (s.raiseFlag).clksrc = s.clksrc := rfl
@[simp] theorem State.raiseFlag_flag : (s.raiseFlag).flag = true := rfl
@[simp] theorem State.raiseFlag_ms : (s.raiseFlag).ms = s.ms := rfl
@[simp] theorem State.raiseFlag_waiting : (s.raiseFlag).waiting = s.waiting := rfl
@[simp] theorem State.raiseFlag_deadline : (s.raiseFlag).deadline = s.deadline := rfl
@[simp] theorem State.raiseFlag_xperiod : (s.raiseFlag).xperiod = s.xperiod := rfl
@[simp] theorem State.raiseFlag_xcount : (s.raiseFlag).xcount = s.xcount := rfl
@[simp] theorem State.raiseFlag_onTime : (s.raiseFlag).onTime = s.onTime := rfl
@[simp] theorem State.raiseFlag_offTime : (s.raiseFlag).offTime = s.offTime := rfl
@[simp] theorem State.raiseFlag_newPos : (s.raiseFlag).newPos = s.newPos := rfl
@[simp] theorem State.raiseFlag_curPos : (s.raiseFlag).curPos = s.curPos := rfl
@[simp] theorem State.raiseFlag_phase : (s.raiseFlag).phase = s.phase := rfl
@[simp] theorem State.raiseFlag_pin : (s.raiseFlag).pin = s.pin := rfl
@[simp] theorem State.raiseFlag_pinOe : (s.raiseFlag).pinOe = s.pinOe := rfl
@[simp] theorem State.raiseFlag_cfg : (s.raiseFlag).cfg = s.cfg := rfl
@[simp] theorem State.raiseFlag_agenda : (s.raiseFlag).agenda = s.agenda := rfl
@[simp] theorem State.raiseFlag_draws : (s.raiseFlag).draws = s.draws := rfl
@[simp] theorem State.raiseFlag_poll : (s.raiseFlag).poll = s.poll := rfl
@[simp] theorem State.raiseFlag_trace : (s.raiseFlag).trace = s.trace := rfl

/-! ### `irqOn` -/

@[simp] theorem State.irqOn_reload : (s.irqOn).reload = s.reload := rfl
@[simp] theorem State.irqOn_count : (s.irqOn).count = s.count := rfl
@[simp] theorem State.irqOn_run : (s.irqOn).run = s.run := rfl
@[simp] theorem State.irqOn_ie : (s.irqOn).ie = true := rfl
@[simp] theorem State.irqOn_clksrc : (s.irqOn).clksrc = s.clksrc := rfl
@[simp] theorem State.irqOn_flag : (s.irqOn).flag = s.flag := rfl
@[simp] theorem State.irqOn_ms : (s.irqOn).ms = s.ms := rfl
@[simp] theorem State.irqOn_waiting : (s.irqOn).waiting = s.waiting := rfl
@[simp] theorem State.irqOn_deadline : (s.irqOn).deadline = s.deadline := rfl
@[simp] theorem State.irqOn_xperiod : (s.irqOn).xperiod = s.xperiod := rfl
@[simp] theorem State.irqOn_xcount : (s.irqOn).xcount = s.xcount := rfl
@[simp] theorem State.irqOn_onTime : (s.irqOn).onTime = s.onTime := rfl
@[simp] theorem State.irqOn_offTime : (s.irqOn).offTime = s.offTime := rfl
@[simp] theorem State.irqOn_newPos : (s.irqOn).newPos = s.newPos := rfl
@[simp] theorem State.irqOn_curPos : (s.irqOn).curPos = s.curPos := rfl
@[simp] theorem State.irqOn_phase : (s.irqOn).phase = s.phase := rfl
@[simp] theorem State.irqOn_pin : (s.irqOn).pin = s.pin := rfl
@[simp] theorem State.irqOn_pinOe : (s.irqOn).pinOe = s.pinOe := rfl
@[simp] theorem State.irqOn_cfg : (s.irqOn).cfg = s.cfg := rfl
@[simp] theorem State.irqOn_agenda : (s.irqOn).agenda = s.agenda := rfl
@[simp] theorem State.irqOn_draws : (s.irqOn).draws = s.draws := rfl
@[simp] theorem State.irqOn_poll : (s.irqOn).poll = s.poll := rfl
@[simp] theorem State.irqOn_trace : (s.irqOn).trace = s.trace := rfl

/-! ### `irqOff` -/

@[simp] theorem State.irqOff_reload : (s.irqOff).reload = s.reload := rfl
@[simp] theorem State.irqOff_count : (s.irqOff).count = s.count := rfl
@[simp] theorem State.irqOff_run : (s.irqOff).run = s.run := rfl
@[simp] theorem State.irqOff_ie : (s.irqOff).ie = false := rfl
@[simp] theorem State.irqOff_clksrc : (s.irqOff).clksrc = s.clksrc := rfl
@[simp] theorem State.irqOff_flag : (s.irqOff).flag = s.flag := rfl
@[simp] theorem State.irqOff_ms : (s.irqOff).ms = s.ms := rfl
@[simp] theorem State.irqOff_waiting : (s.irqOff).waiting = s.waiting := rfl
@[simp] theorem State.irqOff_deadline : (s.irqOff).deadline = s.deadline := rfl
@[simp] theorem State.irqOff_xperiod : (s.irqOff).xperiod = s.xperiod := rfl
@[simp] theorem State.irqOff_xcount : (s.irqOff).xcount = s.xcount := rfl
@[simp] theorem State.irqOff_onTime : (s.irqOff).onTime = s.onTime := rfl
@[simp] theorem State.irqOff_offTime : (s.irqOff).offTime = s.offTime := rfl
@[simp] theorem State.irqOff_newPos : (s.irqOff).newPos = s.newPos := rfl
@[simp] theorem State.irqOff_curPos : (s.irqOff).curPos = s.curPos := rfl
@[simp] theorem State.irqOff_phase : (s.irqOff).phase = s.phase := rfl
@[simp] theorem State.irqOff_pin : (s.irqOff).pin = s.pin := rfl
@[simp] theorem State.irqOff_pinOe : (s.irqOff).pinOe = s.pinOe := rfl
@[simp] theorem State.irqOff_cfg : (s.irqOff).cfg = s.cfg := rfl
@[simp] theorem State.irqOff_agenda : (s.irqOff).agenda = s.agenda := rfl
@[simp] theorem State.irqOff_draws : (s.irqOff).draws = s.draws := rfl
@[simp] theorem State.irqOff_poll : (s.irqOff).poll = s.poll := rfl
@[simp] theorem State.irqOff_trace : (s.irqOff).trace = s.trace := rfl

/-! ### `timerStop` -/

@[simp] theorem State.timerStop_reload : (s.timerStop).reload = s.reload := rfl
@[simp] theorem State.timerStop_count : (s.timerStop).count = s.count := rfl
@[simp] theorem State.timerStop_run : (s.timerStop).run = false := rfl
@[simp] theorem State.timerStop_ie : (s.timerStop).ie = s.ie := rfl
@[simp] theorem State.timerStop_clksrc : (s.timerStop).clksrc = s.clksrc := rfl
@[simp] theorem State.timerStop_flag : (s.timerStop).flag = s.flag := rfl
@[simp] theorem State.timerStop_ms : (s.timerStop).ms = s.ms := rfl
@[simp] theorem State.timerStop_waiting : (s.timerStop).waiting = s.waiting := rfl
@[simp] theorem State.timerStop_deadline : (s.timerStop).deadline = s.deadline := rfl
@[simp] theorem State.timerStop_xperiod : (s.timerStop).xperiod = s.xperiod := rfl
@[simp] theorem State.timerStop_xcount : (s.timerStop).xcount = s.xcount := rfl
@[simp] theorem State.timerStop_onTime : (s.timerStop).onTime = s.onTime := rfl
@[simp] theorem State.timerStop_offTime : (s.timerStop).offTime = s.offTime := rfl
@[simp] theorem State.timerStop_newPos : (s.timerStop).newPos = s.newPos := rfl
@[simp] theorem State.timerStop_curPos : (s.timerStop).curPos = s.curPos := rfl
@[simp] theorem State.timerStop_phase : (s.timerStop).phase = s.phase := rfl
@[simp] theorem State.timerStop_pin : (s.timerStop).pin = s.pin := rfl
@[simp] theorem State.timerStop_pinOe : (s.timerStop).pinOe = s.pinOe := rfl
@[simp] theorem State.timerStop_cfg : (s.timerStop).cfg = s.cfg := rfl
@[simp] theorem State.timerStop_agenda : (s.timerStop).agenda = s.agenda := rfl
@[simp] theorem State.timerStop_draws : (s.timerStop).draws = s.draws := rfl
@[simp] theorem State.timerStop_poll : (s.timerStop).poll = s.poll := rfl
@[simp] theorem State.timerStop_trace : (s.timerStop).trace = s.trace := rfl

/-! ### `timerStart` -/

@[simp] theorem State.timerStart_reload : (s.timerStart).reload = s.reload := rfl
@[simp] theorem State.timerStart_count : (s.timerStart).count = if s.run then s.count else 0 := rfl
@[simp] theorem State.timerStart_run : (s.timerStart).run = true := rfl
@[simp] theorem State.timerStart_ie : (s.timerStart).ie = s.ie := rfl
@[simp] theorem State.timerStart_clksrc : (s.timerStart).clksrc = true := rfl
@[simp] theorem State.timerStart_flag : (s.timerStart).flag = s.flag := rfl
@[simp] theorem State.timerStart_ms : (s.timerStart).ms = s.ms := rfl
@[simp] theorem State.timerStart_waiting : (s.timerStart).waiting = s.waiting := rfl
@[simp] theorem State.timerStart_deadline : (s.timerStart).deadline = s.deadline := rfl
@[simp] theorem State.timerStart_xperiod : (s.timerStart).xperiod = s.xperiod := rfl
@[simp] theorem State.timerStart_xcount : (s.timerStart).xcount = s.xcount := rfl
@[simp] theorem State.timerStart_onTime : (s.timerStart).onTime = s.onTime := rfl
@[simp] theorem State.timerStart_offTime : (s.timerStart).offTime = s.offTime := rfl
@[simp] theorem State.timerStart_newPos : (s.timerStart).newPos = s.newPos := rfl
@[simp] theorem State.timerStart_curPos : (s.timerStart).curPos = s.curPos := rfl
@[simp] theorem State.timerStart_phase : (s.timerStart).phase = s.phase := rfl
@[simp] theorem State.timerStart_pin : (s.timerStart).pin = s.pin := rfl
@[simp] theorem State.timerStart_pinOe : (s.timerStart).pinOe = s.pinOe := rfl
@[simp] theorem State.timerStart_cfg : (s.timerStart).cfg = s.cfg := rfl
@[simp] theorem State.timerStart_agenda : (s.timerStart).agenda = s.agenda := rfl
@[simp] theorem State.timerStart_draws : (s.timerStart).draws = s.draws := rfl
@[simp] theorem State.timerStart_poll : (s.timerStart).poll = s.poll := rfl
@[simp] theorem State.timerStart_trace : (s.timerStart).trace = s.trace := rfl

/-! ### `setPeriod` -/

@[simp] theorem State.setPeriod_reload (p : Nat) : (s.setPeriod p).reload = reloadFor p := rfl
@[simp] theorem State.setPeriod_count (p : Nat) : (s.setPeriod p).count = s.count := rfl
@[simp] theorem State.setPeriod_run (p : Nat) : (s.setPeriod p).run = s.run := rfl
@[simp] theorem State.setPeriod_ie (p : Nat) : (s.setPeriod p).ie = s.ie := rfl
@[simp] theorem State.setPeriod_clksrc (p : Nat) : (s.setPeriod p).clksrc = s.clksrc := rfl
@[simp] theorem State.setPeriod_flag (p : Nat) : (s.setPeriod p).flag = s.flag := rfl
@[simp] theorem State.setPeriod_ms (p : Nat) : (s.setPeriod p).ms = s.ms := rfl
@[simp] theorem State.setPeriod_waiting (p : Nat) : (s.setPeriod p).waiting = s.waiting := rfl
@[simp] theorem State.setPeriod_deadline (p : Nat) : (s.setPeriod p).deadline = s.deadline := rfl
@[simp] theorem State.setPeriod_xperiod (p : Nat) : (s.setPeriod p).xperiod = s.xperiod := rfl
@[simp] theorem State.setPeriod_xcount (p : Nat) : (s.setPeriod p).xcount = s.xcount := rfl
@[simp] theorem State.setPeriod_onTime (p : Nat) : (s.setPeriod p).onTime = s.onTime := rfl
@[simp] theorem State.setPeriod_offTime (p : Nat) : (s.setPeriod p).offTime = s.offTime := rfl
@[simp] theorem State.setPeriod_newPos (p : Nat) : (s.setPeriod p).newPos = s.newPos := rfl
@[simp] theorem State.setPeriod_curPos (p : Nat) : (s.setPeriod p).curPos = s.curPos := rfl
@[simp] theorem State.setPeriod_phase (p : Nat) : (s.setPeriod p).phase = s.phase := rfl
@[simp] theorem State.setPeriod_pin (p : Nat) : (s.setPeriod p).pin = s.pin := rfl
@[simp] theorem State.setPeriod_pinOe (p : Nat) : (s.setPeriod p).pinOe = s.pinOe := rfl
@[simp] theorem State.setPeriod_cfg (p : Nat) : (s.setPeriod p).cfg = s.cfg := rfl
@[simp] theorem State.setPeriod_agenda (p : Nat) : (s.setPeriod p).agenda = s.agenda := rfl
@[simp] theorem State.setPeriod_draws (p : Nat) : (s.setPeriod p).draws = s.draws := rfl
@[simp] theorem State.setPeriod_poll (p : Nat) : (s.setPeriod p).poll = s.poll := rfl
@[simp] theorem State.setPeriod_trace (p : Nat) : (s.setPeriod p).trace = s.trace := rfl

/-! ### `timerRestart` -/

@[simp] theorem State.timerRestart_reload (p : Nat) : (s.timerRestart p).reload = reloadFor p := rfl
@[simp] theorem State.timerRestart_count (p : Nat) : (s.timerRestart p).count = 0 := rfl
@[simp] theorem State.timerRestart_run (p : Nat) : (s.timerRestart p).run = true := rfl
@[simp] theorem State.timerRestart_ie (p : Nat) : (s.timerRestart p).ie = s.ie := rfl
@[simp] theorem State.timerRestart_clksrc (p : Nat) : (s.timerRestart p).clksrc = true := rfl
@[simp] theorem State.timerRestart_flag (p : Nat) : (s.timerRestart p).flag = s.flag := rfl
@[simp] theorem State.timerRestart_ms (p : Nat) : (s.timerRestart p).ms = s.ms := rfl
@[simp] theorem State.timerRestart_waiting (p : Nat) : (s.timerRestart p).waiting = s.waiting := rfl
@[simp] theorem State.timerRestart_deadline (p : Nat) : (s.timerRestart p).deadline = s.deadline := rfl
@[simp] theorem State.timerRestart_xperiod (p : Nat) : (s.timerRestart p).xperiod = s.xperiod := rfl
@[simp] theorem State.timerRestart_xcount (p : Nat) : (s.timerRestart p).xcount = s.xcount := rfl
@[simp] theorem State.timerRestart_onTime (p : Nat) : (s.timerRestart p).onTime = s.onTime := rfl
@[simp] theorem State.timerRestart_offTime (p : Nat) : (s.timerRestart p).offTime = s.offTime := rfl
@[simp] theorem State.timerRestart_newPos (p : Nat) : (s.timerRestart p).newPos = s.newPos := rfl
@[simp] theorem State.timerRestart_curPos (p : Nat) : (s.timerRestart p).curPos = s.curPos := rfl
@[simp] theorem State.timerRestart_phase (p : Nat) : (s.timerRestart p).phase = s.phase := rfl
@[simp] theorem State.timerRestart_pin (p : Nat) : (s.timerRestart p).pin = s.pin := rfl
@[simp] theorem State.timerRestart_pinOe (p : Nat) : (s.timerRestart p).pinOe = s.pinOe := rfl
@[simp] theorem State.timerRestart_cfg (p : Nat) : (s.timerRestart p).cfg = s.cfg := rfl
@[simp] theorem State.timerRestart_agenda (p : Nat) : (s.timerRestart p).agenda = s.agenda := rfl
@[simp] theorem State.timerRestart_draws (p : Nat) : (s.timerRestart p).draws = s.draws := rfl
@[simp] theorem State.timerRestart_poll (p : Nat) : (s.timerRestart p).poll = s.poll := rfl
@[simp] theorem State.timerRestart_trace (p : Nat) : (s.timerRestart p).trace = s.trace := rfl

/-! ### `msTick` -/

@[simp] theorem State.msTick_reload : (s.msTick).reload = s.reload := rfl
@[simp] theorem State.msTick_count : (s.msTick).count = s.count := rfl
@[simp] theorem State.msTick_run : (s.msTick).run = s.run := rfl
@[simp] theorem State.msTick_ie : (s.msTick).ie = s.ie := rfl
@[simp] theorem State.msTick_clksrc : (s.msTick).clksrc = s.clksrc := rfl
@[simp] theorem State.msTick_flag : (s.msTick).flag = s.flag := rfl
@[simp] theorem State.msTick_ms : (s.msTick).ms = trunc 64 ((s.ms.toNat : Int) + 1) := rfl
@[simp] theorem State.msTick_waiting : (s.msTick).waiting = s.waiting := rfl
@[simp] theorem State.msTick_deadline : (s.msTick).deadline = s.deadline := rfl
@[simp] theorem State.msTick_xperiod : (s.msTick).xperiod = s.xperiod := rfl
@[simp] theorem State.msTick_xcount : (s.msTick).xcount = s.xcount := rfl
@[simp] theorem State.msTick_onTime : (s.msTick).onTime = s.onTime := rfl
@[simp] theorem State.msTick_offTime : (s.msTick).offTime = s.offTime := rfl
@[simp] theorem State.msTick_newPos : (s.msTick).newPos = s.newPos := rfl
@[simp] theorem State.msTick_curPos : (s.msTick).curPos = s.curPos := rfl
@[simp] theorem State.msTick_phase : (s.msTick).phase = s.phase := rfl
@[simp] theorem State.msTick_pin : (s.msTick).pin = s.pin := rfl
@[simp] theorem State.msTick_pinOe : (s.msTick).pinOe = s.pinOe := rfl
@[simp] theorem State.msTick_cfg : (s.msTick).cfg = s.cfg := rfl
@[simp] theorem State.msTick_agenda : (s.msTick).agenda = s.agenda := rfl
@[simp] theorem State.msTick_draws : (s.msTick).draws = s.draws := rfl
@[simp] theorem State.msTick_poll : (s.msTick).poll = s.poll := rfl
@[simp] theorem State.msTick_trace : (s.msTick).trace = s.trace := rfl

/-! ### `waitDone` -/

@[simp] theorem State.waitDone_reload : (s.waitDone).reload = s.reload := rfl
@[simp] theorem State.waitDone_count : (s.waitDone).count = s.count := rfl
@[simp] theorem State.waitDone_run : (s.waitDone).run = s.run := rfl
@[simp] theorem State.waitDone_ie : (s.waitDone).ie = s.ie := rfl
@[simp] theorem State.waitDone_clksrc : (s.waitDone).clksrc = s.clksrc := rfl
@[simp] theorem State.waitDone_flag : (s.waitDone).flag = s.flag := rfl
@[simp] theorem State.waitDone_ms : (s.waitDone).ms = s.ms := rfl
@[simp] theorem State.waitDone_waiting : (s.waitDone).waiting = false := rfl
@[simp] theorem State.waitDone_deadline : (s.waitDone).deadline = s.deadline := rfl
@[simp] theorem State.waitDone_xperiod : (s.waitDone).xperiod = s.xperiod := rfl
@[simp] theorem State.waitDone_xcount : (s.waitDone).xcount = s.xcount := rfl
@[simp] theorem State.waitDone_onTime : (s.waitDone).onTime = s.onTime := rfl
@[simp] theorem State.waitDone_offTime : (s.waitDone).offTime = s.offTime := rfl
@[simp] theorem State.waitDone_newPos : (s.waitDone).newPos = s.newPos := rfl
@[simp] theorem State.waitDone_curPos : (s.waitDone).curPos = s.curPos := rfl
@[simp] theorem State.waitDone_phase : (s.waitDone).phase = s.phase := rfl
@[simp] theorem State.waitDone_pin : (s.waitDone).pin = s.pin := rfl
@[simp] theorem State.waitDone_pinOe : (s.waitDone).pinOe = s.pinOe := rfl
@[simp] theorem State.waitDone_cfg : (s.waitDone).cfg = s.cfg := rfl
@[simp] theorem State.waitDone_agenda : (s.waitDone).agenda = s.agenda := rfl
@[simp] theorem State.waitDone_draws : (s.waitDone).draws = s.draws := rfl
@[simp] theorem State.waitDone_poll : (s.waitDone).poll = none := rfl
@[simp] theorem State.waitDone_trace : (s.waitDone).trace = .response ⟨.ok, 0⟩ :: s.trace := rfl

/-! ### `drivePin` -/

@[simp] theorem State.drivePin_reload (level : Bool) : (s.drivePin level).reload = s.reload := rfl
@[simp] theorem State.drivePin_count (level : Bool) : (s.drivePin level).count = s.count := rfl
@[simp] theorem State.drivePin_run (level : Bool) : (s.drivePin level).run = s.run := rfl
@[simp] theorem State.drivePin_ie (level : Bool) : (s.drivePin level).ie = s.ie := rfl
@[simp] theorem State.drivePin_clksrc (level : Bool) : (s.drivePin level).clksrc = s.clksrc := rfl
@[simp] theorem State.drivePin_flag (level : Bool) : (s.drivePin level).flag = s.flag := rfl
@[simp] theorem State.drivePin_ms (level : Bool) : (s.drivePin level).ms = s.ms := rfl
@[simp] theorem State.drivePin_waiting (level : Bool) : (s.drivePin level).waiting = s.waiting := rfl
@[simp] theorem State.drivePin_deadline (level : Bool) : (s.drivePin level).deadline = s.deadline := rfl
@[simp] theorem State.drivePin_xperiod (level : Bool) : (s.drivePin level).xperiod = s.xperiod := rfl
@[simp] theorem State.drivePin_xcount (level : Bool) : (s.drivePin level).xcount = s.xcount := rfl
@[simp] theorem State.drivePin_onTime (level : Bool) : (s.drivePin level).onTime = s.onTime := rfl
@[simp] theorem State.drivePin_offTime (level : Bool) : (s.drivePin level).offTime = s.offTime := rfl
@[simp] theorem State.drivePin_newPos (level : Bool) : (s.drivePin level).newPos = s.newPos := rfl
@[simp] theorem State.drivePin_curPos (level : Bool) : (s.drivePin level).curPos = s.curPos := rfl
@[simp] theorem State.drivePin_phase (level : Bool) : (s.drivePin level).phase = s.phase := rfl
@[simp] theorem State.drivePin_pin (level : Bool) : (s.drivePin level).pin = level := rfl
@[simp] theorem State.drivePin_pinOe (level : Bool) : (s.drivePin level).pinOe = s.pinOe := rfl
@[simp] theorem State.drivePin_cfg (level : Bool) : (s.drivePin level).cfg = s.cfg := rfl
@[simp] theorem State.drivePin_agenda (level : Bool) : (s.drivePin level).agenda = s.agenda := rfl
@[simp] theorem State.drivePin_draws (level : Bool) : (s.drivePin level).draws = s.draws := rfl
@[simp] theorem State.drivePin_poll (level : Bool) : (s.drivePin level).poll = s.poll := rfl
@[simp] theorem State.drivePin_trace (level : Bool) : (s.drivePin level).trace = .event (if level then .pinHigh else .pinLow) :: s.trace := rfl

/-! ### `latch` -/

@[simp] theorem State.latch_reload (pos : S32) : (s.latch pos).reload = s.reload := rfl
@[simp] theorem State.latch_count (pos : S32) : (s.latch pos).count = s.count := rfl
@[simp] theorem State.latch_run (pos : S32) : (s.latch pos).run = s.run := rfl
@[simp] theorem State.latch_ie (pos : S32) : (s.latch pos).ie = s.ie := rfl
@[simp] theorem State.latch_clksrc (pos : S32) : (s.latch pos).clksrc = s.clksrc := rfl
@[simp] theorem State.latch_flag (pos : S32) : (s.latch pos).flag = s.flag := rfl
@[simp] theorem State.latch_ms (pos : S32) : (s.latch pos).ms = s.ms := rfl
@[simp] theorem State.latch_waiting (pos : S32) : (s.latch pos).waiting = s.waiting := rfl
@[simp] theorem State.latch_deadline (pos : S32) : (s.latch pos).deadline = s.deadline := rfl
@[simp] theorem State.latch_xperiod (pos : S32) : (s.latch pos).xperiod = s.xperiod := rfl
@[simp] theorem State.latch_xcount (pos : S32) : (s.latch pos).xcount = s.xcount := rfl
@[simp] theorem State.latch_onTime (pos : S32) : (s.latch pos).onTime = (pulse s.cfg pos).1 := rfl
@[simp] theorem State.latch_offTime (pos : S32) : (s.latch pos).offTime = (pulse s.cfg pos).2 := rfl
@[simp] theorem State.latch_newPos (pos : S32) : (s.latch pos).newPos = s.newPos := rfl
@[simp] theorem State.latch_curPos (pos : S32) : (s.latch pos).curPos = pos := rfl
@[simp] theorem State.latch_phase (pos : S32) : (s.latch pos).phase = s.phase := rfl
@[simp] theorem State.latch_pin (pos : S32) : (s.latch pos).pin = s.pin := rfl
@[simp] theorem State.latch_pinOe (pos : S32) : (s.latch pos).pinOe = s.pinOe := rfl
@[simp] theorem State.latch_cfg (pos : S32) : (s.latch pos).cfg = s.cfg := rfl
@[simp] theorem State.latch_agenda (pos : S32) : (s.latch pos).agenda = s.agenda := rfl
@[simp] theorem State.latch_draws (pos : S32) : (s.latch pos).draws = s.draws := rfl
@[simp] theorem State.latch_poll (pos : S32) : (s.latch pos).poll = s.poll := rfl
@[simp] theorem State.latch_trace (pos : S32) : (s.latch pos).trace = s.trace := rfl

/-! ### `resetBlock` -/

@[simp] theorem State.resetBlock_reload : s.resetBlock.reload = 0 := rfl
@[simp] theorem State.resetBlock_count : s.resetBlock.count = 0 := rfl
@[simp] theorem State.resetBlock_run : s.resetBlock.run = false := rfl
@[simp] theorem State.resetBlock_ie : s.resetBlock.ie = false := rfl
@[simp] theorem State.resetBlock_clksrc : s.resetBlock.clksrc = false := rfl
@[simp] theorem State.resetBlock_flag : s.resetBlock.flag = false := rfl
@[simp] theorem State.resetBlock_ms : s.resetBlock.ms = 0 := rfl
@[simp] theorem State.resetBlock_waiting : s.resetBlock.waiting = false := rfl
@[simp] theorem State.resetBlock_deadline : s.resetBlock.deadline = 0 := rfl
@[simp] theorem State.resetBlock_xperiod : s.resetBlock.xperiod = 0 := rfl
@[simp] theorem State.resetBlock_xcount : s.resetBlock.xcount = 0 := rfl
@[simp] theorem State.resetBlock_onTime : s.resetBlock.onTime = 0 := rfl
@[simp] theorem State.resetBlock_offTime : s.resetBlock.offTime = 0 := rfl
@[simp] theorem State.resetBlock_newPos : s.resetBlock.newPos = 0 := rfl
@[simp] theorem State.resetBlock_curPos : s.resetBlock.curPos = 0 := rfl
@[simp] theorem State.resetBlock_phase : s.resetBlock.phase = .highPending := rfl
@[simp] theorem State.resetBlock_pin : s.resetBlock.pin = false := rfl
@[simp] theorem State.resetBlock_pinOe : s.resetBlock.pinOe = false := rfl
@[simp] theorem State.resetBlock_cfg : s.resetBlock.cfg = s.cfg := rfl
@[simp] theorem State.resetBlock_agenda : s.resetBlock.agenda = s.agenda := rfl
@[simp] theorem State.resetBlock_draws : s.resetBlock.draws = s.draws := rfl
@[simp] theorem State.resetBlock_poll : s.resetBlock.poll = none := rfl
@[simp] theorem State.resetBlock_trace : s.resetBlock.trace = [] := rfl

@[simp] theorem State.refuse_eq_respond (c : Status) : s.refuse c = s.respond c 0 := rfl

@[simp] theorem State.illegalOpcode_eq_respond : s.illegalOpcode = s.respond .illegalOpcode 0 := rfl

end Sys2Proof.Machine
end

