-- ==== Sys2Proof/Laws/Step.lean ====
section
/-! SUPPORT. What each shared operation can do, said once: `Cycle`, `Service`, which step comes next, one
step, and runs. Later proofs cite these instead of unfolding `schedule` and `step`. -/

namespace Sys2Proof.Machine

variable {s t u : State}

/-! ### Cycle and Service -/

/-- R100: a stopped timer does not count. -/
theorem cycle_stopped (h : s.run = false) : s.cycle = s := by simp [State.cycle, h]

/-- R100: a running timer counts, and the flag is raised when the new count is 0. -/
theorem cycle_running (h : s.run = true) :
    s.cycle = { s with count := s.nextCount, flag := s.flag || decide (s.nextCount = 0) } := by
  unfold State.cycle State.raiseFlag
  rw [if_pos h]
  by_cases hc : s.nextCount = 0
  · rw [if_pos hc, decide_eq_true hc, Bool.or_true]
  · rw [if_neg hc, decide_eq_false hc, Bool.or_false]

/-- R100: `Cycle` as one record update, running or stopped. -/
theorem cycle_eq (s : State) :
    s.cycle = { s with
      count := if s.run then s.nextCount else s.count
      flag := s.flag || (s.run && decide (s.nextCount = 0)) } := by
  obtain ⟨_, _, run⟩ := s
  cases run
  · rw [cycle_stopped rfl]; simp
  · rw [cycle_running rfl]; simp

/-- R100: the new count as a number; nothing wraps (R113). -/
theorem nextCount_toNat (s : State) :
    s.nextCount.toNat = if s.count.toNat = 0 then s.reload.toNat else s.count.toNat - 1 := by
  unfold State.nextCount
  by_cases h : s.count = 0
  · simp [h]
  · have h0 : s.count.toNat ≠ 0 := fun e => h (BitVec.eq_of_toNat_eq (by simpa using e))
    have := s.count.isLt
    simp only [h, h0, if_false]
    rw [BitVec.toNat_sub_of_le (by simpa [BitVec.le_def] using Nat.one_le_iff_ne_zero.mpr h0)]
    rfl

theorem service_none (h : s.cfg.sink = .none) : s.service = { s with flag := false } := by
  simp [State.service, h, State.clearFlag]

theorem service_msClock (h : s.cfg.sink = .msClock) :
    s.service = { s with flag := false, ms := trunc 64 ((s.ms.toNat : Int) + 1) } := by
  simp [State.service, h, State.clearFlag, State.msTick]

theorem service_timedExec (h : s.cfg.sink = .timedExec) : s.service = s.clearFlag.msTick.execTick := by
  simp [State.service, h]

theorem service_servo (h : s.cfg.sink = .servo) : s.service = s.clearFlag.servoPhase := by
  simp [State.service, h]

/-- R150: everything `ExecTick` can do. -/
theorem execTick_cases (s : State) :
    (s.xperiod = 0 ∧ s.execTick = { s with xcount := 0 }) ∨
    (s.xperiod ≠ 0 ∧ s.xcount + 1 = s.xperiod ∧
      s.execTick = { s with xcount := 0, trace := .event .execCb :: s.trace }) ∨
    (s.xperiod ≠ 0 ∧ s.xcount + 1 ≠ s.xperiod ∧ s.execTick = { s with xcount := s.xcount + 1 }) := by
  unfold State.execTick State.emit
  by_cases h0 : s.xperiod = 0
  · exact .inl ⟨h0, if_pos h0⟩
  · by_cases h1 : s.xcount + 1 = s.xperiod
    · exact .inr (.inl ⟨h0, h1, by rw [if_neg h0, if_pos h1]⟩)
    · exact .inr (.inr ⟨h0, h1, by rw [if_neg h0, if_neg h1]⟩)

/-- R165, first arm. -/
theorem beginHigh_eq (s : State) :
    s.beginHigh =
      { s with
        curPos := s.newPos, onTime := (pulse s.cfg s.newPos).1, offTime := (pulse s.cfg s.newPos).2
        pin := true, reload := reloadFor (pulse s.cfg s.newPos).1.toNat, count := 0, run := true, clksrc := true
        phase := .lowPending, trace := .event .pinHigh :: s.trace } := rfl

/-- R165, second arm. -/
theorem beginLow_eq (s : State) :
    s.beginLow =
      { s with
        pin := false, reload := reloadFor s.offTime.toNat, count := 0, run := true, clksrc := true
        phase := .highPending, trace := .event .pinLow :: s.trace } := rfl

/-- R205: no arm of `Service` sets the flag. -/
theorem service_flag (s : State) : s.service.flag = false := by
  cases h : s.cfg.sink with
  | none => simp [service_none h]
  | msClock => simp [service_msClock h]
  | timedExec => rw [service_timedExec h]; rcases execTick_cases s.clearFlag.msTick with h | h | h <;> simp [h]
  | servo =>
    rw [service_servo h]; unfold State.servoPhase
    cases s.clearFlag.phase <;> simp [beginHigh_eq, beginLow_eq]

/-- R203: what `Service` leaves alone under every strap: `IE` (R204) and everything a handler does not write. -/
theorem service_frame (s : State) :
    s.service.ie = s.ie ∧ s.service.waiting = s.waiting ∧ s.service.deadline = s.deadline ∧
    s.service.xperiod = s.xperiod ∧ s.service.newPos = s.newPos ∧ s.service.pinOe = s.pinOe ∧
    s.service.cfg = s.cfg ∧ s.service.agenda = s.agenda ∧ s.service.draws = s.draws ∧ s.service.poll = s.poll := by
  cases h : s.cfg.sink with
  | none => simp [service_none h]
  | msClock => simp [service_msClock h]
  | timedExec => rw [service_timedExec h]; rcases execTick_cases s.clearFlag.msTick with h | h | h <;> simp [h]
  | servo =>
    rw [service_servo h]; unfold State.servoPhase
    cases s.clearFlag.phase <;> simp [beginHigh_eq, beginLow_eq]

/-- R203: everything `Service` can do, each strap's arm as one record update. -/
theorem service_cases (s : State) :
    (s.cfg.sink = .none ∧ s.service = { s with flag := false }) ∨
    (s.cfg.sink = .msClock ∧ s.service = { s with flag := false, ms := trunc 64 ((s.ms.toNat : Int) + 1) }) ∨
    (s.cfg.sink = .timedExec ∧ ∃ (x : U32) (l : List Obs),
      s.service = { s with flag := false, ms := trunc 64 ((s.ms.toNat : Int) + 1), xcount := x, trace := l } ∧
      ((s.xperiod = 0 ∧ x = 0 ∧ l = s.trace) ∨
        (s.xperiod ≠ 0 ∧ s.xcount + 1 = s.xperiod ∧ x = 0 ∧ l = .event .execCb :: s.trace) ∨
        (s.xperiod ≠ 0 ∧ s.xcount + 1 ≠ s.xperiod ∧ x = s.xcount + 1 ∧ l = s.trace))) ∨
    (s.cfg.sink = .servo ∧ s.phase = .highPending ∧
      s.service = { s with
        flag := false, curPos := s.newPos, onTime := (pulse s.cfg s.newPos).1, offTime := (pulse s.cfg s.newPos).2
        pin := true, reload := reloadFor (pulse s.cfg s.newPos).1.toNat, count := 0, run := true, clksrc := true
        phase := .lowPending, trace := .event .pinHigh :: s.trace }) ∨
    (s.cfg.sink = .servo ∧ s.phase = .lowPending ∧
      s.service = { s with
        flag := false, pin := false, reload := reloadFor s.offTime.toNat, count := 0, run := true, clksrc := true
        phase := .highPending, trace := .event .pinLow :: s.trace }) := by
  cases hk : s.cfg.sink with
  | none => exact .inl ⟨rfl, service_none hk⟩
  | msClock => exact .inr (.inl ⟨rfl, service_msClock hk⟩)
  | timedExec =>
    refine .inr (.inr (.inl ⟨rfl, ?_⟩))
    rw [service_timedExec hk]
    rcases execTick_cases s.clearFlag.msTick with ⟨h, e⟩ | ⟨h, h', e⟩ | ⟨h, h', e⟩
    · exact ⟨0, s.trace, e, .inl ⟨h, rfl, rfl⟩⟩
    · exact ⟨0, _, e, .inr (.inl ⟨h, h', rfl, rfl⟩)⟩
    · exact ⟨s.xcount + 1, _, e, .inr (.inr ⟨h, h', rfl, rfl⟩)⟩
  | servo =>
    rw [service_servo hk]
    cases hp : s.phase with
    | highPending =>
      exact .inr (.inr (.inr (.inl ⟨rfl, rfl, by simp [State.servoPhase, hp, beginHigh_eq, State.clearFlag]⟩)))
    | lowPending =>
      exact .inr (.inr (.inr (.inr ⟨rfl, rfl, by simp [State.servoPhase, hp, beginLow_eq, State.clearFlag]⟩)))

@[simp] theorem whenAvailable_true (s t : State) : whenAvailable true s t = .next t := rfl

@[simp] theorem whenAvailable_false (s t : State) : whenAvailable false s t = .next (s.refuse .sinkUnavailable) := rfl

/-! ### Which step comes next -/

/-- R11 (b), R135: everything `idle` can do. -/
theorem idle_cases (s : State) :
    (s.waitOver = true ∧ s.patience = 0 ∧ s.idle = (.waitDone, { s with draws := s.drawn })) ∨
    (s.waitOver = true ∧ ∃ n, s.patience = n + 1 ∧ s.idle = (.cycle, { s with draws := s.drawn, poll := some n })) ∨
    (s.waitOver = false ∧ s.idle = (.cycle, s)) := by
  unfold State.idle
  cases h : s.waitOver
  · simp
  · cases h2 : s.patience <;> simp

/-- Field by field. -/
theorem State.sameBlock_fields (h : s.sameBlock u) :
    u.cfg = s.cfg ∧ u.run = s.run ∧ u.ie = s.ie ∧ u.flag = s.flag ∧ u.count = s.count ∧ u.reload = s.reload ∧
    u.clksrc = s.clksrc ∧ u.ms = s.ms ∧ u.waiting = s.waiting ∧ u.deadline = s.deadline ∧ u.xperiod = s.xperiod ∧
    u.xcount = s.xcount ∧ u.onTime = s.onTime ∧ u.offTime = s.offTime ∧ u.newPos = s.newPos ∧ u.curPos = s.curPos ∧
    u.phase = s.phase ∧ u.pin = s.pin ∧ u.pinOe = s.pinOe ∧ u.trace = s.trace := by
  unfold State.sameBlock at h
  rw [h]; simp

/-- R11: everything `schedule` can do, with what holds then. -/
theorem schedule_cases (s : State) :
    (∃ rest, (s.agenda = .resetAtOnce :: rest ∨ (s.agenda = .reset :: rest ∧ s.irq = false)) ∧
      s.schedule = (.reset, { s with agenda := rest })) ∨
    ((∀ rest, s.agenda ≠ .resetAtOnce :: rest) ∧ s.irq = true ∧ s.schedule = (.service, s)) ∨
    (s.irq = false ∧ ∃ u, s.sameBlock u ∧ s.schedule = (.cycle, u)) ∨
    (s.irq = false ∧ s.waitOver = true ∧ ∃ u, s.sameBlock u ∧ s.schedule = (.waitDone, u)) ∨
    (s.irq = false ∧ s.waiting = false ∧ ∃ w rest, s.agenda = .cmd w :: rest ∧
      s.schedule = (.cmd w, { s with agenda := rest })) := by
  have idleStep : s.schedule = s.idle →
      (∃ u, s.sameBlock u ∧ s.schedule = (.cycle, u)) ∨
      (s.waitOver = true ∧ ∃ u, s.sameBlock u ∧ s.schedule = (.waitDone, u)) := by
    intro hs
    rcases idle_cases s with ⟨hw, _, h⟩ | ⟨_, n, _, h⟩ | ⟨_, h⟩
    · exact .inr ⟨hw, { s with draws := s.drawn }, rfl, hs.trans h⟩
    · exact .inl ⟨{ s with draws := s.drawn, poll := some n }, rfl, hs.trans h⟩
    · exact .inl ⟨s, rfl, hs.trans h⟩
  cases hi : s.irq with
  | true =>
    match ha : s.agenda with
    | .resetAtOnce :: rest => exact .inl ⟨rest, .inl rfl, by simp [State.schedule, ha]⟩
    | [] | .reset :: _ | .cycle :: _ | .cmd _ :: _ | .waitDone :: _ =>
      exact .inr (.inl ⟨by simp, rfl, by simp [State.schedule, ha, hi]⟩)
  | false =>
    match ha : s.agenda with
    | .resetAtOnce :: rest => exact .inl ⟨rest, .inl rfl, by simp [State.schedule, ha]⟩
    | .reset :: rest => exact .inl ⟨rest, .inr ⟨rfl, rfl⟩, by simp [State.schedule, ha, hi]⟩
    | .cycle :: rest =>
      exact .inr (.inr (.inl ⟨rfl, { s with agenda := rest }, rfl, by simp [State.schedule, ha, hi]⟩))
    | [] =>
      rcases idleStep (by simp [State.schedule, ha, hi]) with h | h
      · exact .inr (.inr (.inl ⟨rfl, h⟩))
      · exact .inr (.inr (.inr (.inl ⟨rfl, h⟩)))
    | .cmd w :: rest =>
      cases hw : s.waiting with
      | true =>
        rcases idleStep (by simp [State.schedule, ha, hi, hw]) with h | h
        · exact .inr (.inr (.inl ⟨rfl, h⟩))
        · exact .inr (.inr (.inr (.inl ⟨rfl, h⟩)))
      | false =>
        exact .inr (.inr (.inr (.inr ⟨rfl, rfl, w, rest, rfl, by simp [State.schedule, ha, hi, hw]⟩)))
    | .waitDone :: rest =>
      cases hw : s.waitOver with
      | true =>
        exact .inr (.inr (.inr (.inl
          ⟨rfl, rfl, { s with agenda := rest }, rfl, by simp [State.schedule, ha, hi, hw]⟩)))
      | false =>
        rcases idleStep (by simp [State.schedule, ha, hi, hw]) with h | h
        · exact .inr (.inr (.inl ⟨rfl, h⟩))
        · rw [hw] at h; simp at h

/-- R11 (a): a forced `Service` leaves the state to take it from as it is. -/
theorem schedule_service (hi : s.irq = true) (h : ∀ rest, s.agenda ≠ .resetAtOnce :: rest) :
    s.schedule = (.service, s) := by
  rcases schedule_cases s with ⟨r, h1 | h1, _⟩ | ⟨_, _, h2⟩ | h1 | h1 | h1
  · exact absurd h1 (h r)
  · simp [hi] at h1
  · exact h2
  all_goals simp [hi] at h1

/-- R11 (b): the state a `Cycle` is taken from. A `Cycle` at the head of the agenda is made; any other head
is held. -/
theorem schedule_cycle (h : s.nextKind = .cycle) :
    s.irq = false ∧ ∃ a d p, s.schedule = (.cycle, { s with agenda := a, draws := d, poll := p }) ∧
      (∀ rest, s.agenda = .cycle :: rest → a = rest ∧ d = s.draws ∧ p = s.poll) ∧
      ((∀ rest, s.agenda ≠ .cycle :: rest) → a = s.agenda) := by
  have irq : s.irq = false := by
    rcases schedule_cases s with ⟨_, _, h2⟩ | ⟨_, _, h2⟩ | ⟨hi, _⟩ | ⟨hi, _⟩ | ⟨hi, _⟩
    · simp [State.nextKind, h2] at h
    · simp [State.nextKind, h2] at h
    all_goals exact hi
  have idle (hs : s.schedule = s.idle) :
      ∃ a d p, s.schedule = (.cycle, { s with agenda := a, draws := d, poll := p }) ∧ a = s.agenda := by
    rcases idle_cases s with ⟨_, _, h'⟩ | ⟨_, n, _, h'⟩ | ⟨_, h'⟩
    · simp [State.nextKind, hs, h'] at h
    · exact ⟨_, _, _, hs.trans h', rfl⟩
    · exact ⟨s.agenda, s.draws, s.poll, hs.trans h', rfl⟩
  refine ⟨irq, ?_⟩
  match ha : s.agenda with
  | .resetAtOnce :: _ => simp [State.nextKind, State.schedule, ha] at h
  | .reset :: _ => simp [State.nextKind, State.schedule, ha, irq] at h
  | .cycle :: r => exact ⟨r, s.draws, s.poll, by simp [State.schedule, ha, irq], by simp, by simp⟩
  | .cmd w :: _ =>
    cases hw : s.waiting with
    | false => simp [State.nextKind, State.schedule, ha, irq, hw] at h
    | true =>
      obtain ⟨a, d, p, h1, h2⟩ := idle (by simp [State.schedule, ha, irq, hw])
      exact ⟨a, d, p, by rw [h1, ← hw], by simp, fun _ => by rw [h2, ha]⟩
  | .waitDone :: _ =>
    cases hw : s.waitOver with
    | true => simp [State.nextKind, State.schedule, ha, irq, hw] at h
    | false =>
      obtain ⟨a, d, p, h1, h2⟩ := idle (by simp [State.schedule, ha, irq, hw])
      exact ⟨a, d, p, h1, by simp, fun _ => by rw [h2, ha]⟩
  | [] =>
    obtain ⟨a, d, p, h1, h2⟩ := idle (by simp [State.schedule, ha, irq])
    exact ⟨a, d, p, h1, by simp, fun _ => by rw [h2, ha]⟩

/-- R11 (b), R135: the state a `WaitDone` is taken from. -/
theorem schedule_waitDone (h : s.nextKind = .waitDone) :
    s.irq = false ∧ s.waitOver = true ∧ ∃ a d, s.schedule = (.waitDone, { s with agenda := a, draws := d }) ∧
      (∀ rest, s.agenda = .waitDone :: rest → a = rest ∧ d = s.draws) ∧
      ((∀ rest, s.agenda ≠ .waitDone :: rest) → a = s.agenda) := by
  obtain ⟨irq, hover⟩ : s.irq = false ∧ s.waitOver = true := by
    rcases schedule_cases s with ⟨_, _, h2⟩ | ⟨_, _, h2⟩ | ⟨_, _, _, h2⟩ | ⟨hi, hw, _⟩ | ⟨_, _, _, _, _, h2⟩
    · simp [State.nextKind, h2] at h
    · simp [State.nextKind, h2] at h
    · simp [State.nextKind, h2] at h
    · exact ⟨hi, hw⟩
    · simp [State.nextKind, h2] at h
  have idle (hs : s.schedule = s.idle) :
      ∃ a d, s.schedule = (.waitDone, { s with agenda := a, draws := d }) ∧ a = s.agenda := by
    rcases idle_cases s with ⟨_, _, h'⟩ | ⟨_, n, _, h'⟩ | ⟨_, h'⟩
    · exact ⟨_, _, hs.trans h', rfl⟩
    · simp [State.nextKind, hs, h'] at h
    · simp [State.nextKind, hs, h'] at h
  refine ⟨irq, hover, ?_⟩
  match ha : s.agenda with
  | .resetAtOnce :: _ => simp [State.nextKind, State.schedule, ha] at h
  | .reset :: _ => simp [State.nextKind, State.schedule, ha, irq] at h
  | .cycle :: _ => simp [State.nextKind, State.schedule, ha, irq] at h
  | .cmd w :: _ =>
    cases hw : s.waiting with
    | false => simp [State.nextKind, State.schedule, ha, irq, hw] at h
    | true =>
      obtain ⟨a, d, h1, h2⟩ := idle (by simp [State.schedule, ha, irq, hw])
      exact ⟨a, d, by rw [h1, ← hw], by simp, fun _ => by rw [h2, ha]⟩
  | .waitDone :: r => exact ⟨r, s.draws, by simp [State.schedule, ha, irq, hover], by simp, by simp⟩
  | [] =>
    obtain ⟨a, d, h1, h2⟩ := idle (by simp [State.schedule, ha, irq])
    exact ⟨a, d, h1, by simp, fun _ => by rw [h2, ha]⟩

/-- R9, R11: everything one step can do. -/
theorem step_cases (h : step s = .next t) :
    (∃ rest, (s.agenda = .resetAtOnce :: rest ∨ (s.agenda = .reset :: rest ∧ s.irq = false)) ∧ s.nextKind = .reset ∧
      t = ({ s with agenda := rest } : State).resetBlock) ∨
    ((∀ rest, s.agenda ≠ .resetAtOnce :: rest) ∧ s.irq = true ∧ s.nextKind = .service ∧
      t = (s.mark .service).service) ∨
    (s.irq = false ∧ s.nextKind = .cycle ∧ ∃ u, s.sameBlock u ∧ t = (u.mark .cycle).cycle) ∨
    (s.irq = false ∧ s.waitOver = true ∧ s.nextKind = .waitDone ∧
      ∃ u, s.sameBlock u ∧ t = (u.mark .waitDone).waitDone) ∨
    (s.irq = false ∧ s.waiting = false ∧ ∃ w rest, s.agenda = .cmd w :: rest ∧ s.nextKind = .cmd w ∧
      runWord w (({ s with agenda := rest } : State).mark (.cmd w)) = .next t) := by
  unfold step at h
  rcases schedule_cases s with ⟨rest, ha, hs⟩ | ⟨ha, hi, hs⟩ | ⟨hi, u, hu, hs⟩ | ⟨hi, hw, u, hu, hs⟩ |
    ⟨hi, hw, w, rest, ha, hs⟩
  · rw [hs] at h; exact .inl ⟨rest, ha, by simp [State.nextKind, hs], by simpa [take] using h.symm⟩
  · rw [hs] at h; exact .inr (.inl ⟨ha, hi, by simp [State.nextKind, hs], by simpa [take] using h.symm⟩)
  · rw [hs] at h
    exact .inr (.inr (.inl ⟨hi, by simp [State.nextKind, hs], u, hu, by simpa [take] using h.symm⟩))
  · rw [hs] at h
    exact .inr (.inr (.inr (.inl ⟨hi, hw, by simp [State.nextKind, hs], u, hu, by simpa [take] using h.symm⟩)))
  · rw [hs] at h
    exact .inr (.inr (.inr (.inr ⟨hi, hw, w, rest, ha, by simp [State.nextKind, hs], by simpa [take] using h⟩)))

/-- R76: a word spells no command and is answered, or its command is run. -/
theorem runWord_cases (w : Word40) (s : State) :
    (∃ i, decode w = .ok i ∧ runWord w s = exec i s) ∨
    (∃ e, decode w = .error e ∧ runWord w s = .next s.illegalOpcode) := by
  unfold runWord
  cases h : decode w with
  | ok i => exact .inl ⟨i, rfl, rfl⟩
  | error e => exact .inr ⟨e, rfl, rfl⟩

/-! ### Runs -/

/-- Two runs one after the other. -/
theorem Path.append {ks ks' : List StepKind} (h : Path s ks t) (h' : Path t ks' u) : Path s (ks ++ ks') u := by
  induction h with
  | done => exact h'
  | cons hs _ ih => exact .cons hs (ih h')

/-- A run with one more step. -/
theorem Path.snoc {ks : List StepKind} (h : Path s ks t) (hs : step t = .next u) : Path s (ks ++ [t.nextKind]) u :=
  h.append (.cons hs (.done u))

/-- What holds before a run and is kept by every step holds after it. -/
theorem Path.keeps {P : State → Prop} (hstep : ∀ s t, P s → step s = .next t → P t) {ks : List StepKind}
    (h : Path s ks t) (hs : P s) : P t := by
  induction h with
  | done => exact hs
  | cons h1 _ ih => exact ih (hstep _ _ hs h1)

/-- What holds before a run and is kept by every step whose kind is allowed holds after it. -/
theorem Path.keeps_of {P : State → Prop} {ok : StepKind → Prop}
    (hstep : ∀ s t, P s → ok s.nextKind → step s = .next t → P t) {ks : List StepKind} (h : Path s ks t)
    (hk : ∀ k ∈ ks, ok k) (hs : P s) : P t := by
  induction h with
  | done => exact hs
  | cons h1 _ ih => exact ih (fun k hm => hk k (by simp [hm])) (hstep _ _ hs (hk _ (by simp)) h1)

end Sys2Proof.Machine
end

