-- ==== Sys2Proof/Laws/Exec.lean ====
section
/-! SUPPORT. What `exec` gives for every command, as one record update (`effect`) under the straps that have
the command's unit (`availableUnder`, spec rule R75 column "needs"). -/

namespace Sys2Proof.Machine

/-- The state a command leaves where it is available. -/
def effect (s : State) : Instr → State
  | .tmrStart =>
    { s with count := if s.run then s.count else 0, run := true, clksrc := true, trace := s.answered .ok 0 }
  | .tmrStop => { s with run := false, trace := s.answered .ok 0 }
  | .tmrSetPeriod p => { s with reload := reloadFor p, trace := s.answered .ok 0 }
  | .tmrGetPeriod => { s with trace := s.answered .ok (zext64 (periodOf s.reload)) }
  | .tmrGetCount => { s with trace := s.answered .ok (zext64 s.count.toNat) }
  | .tmrIrqOn => { s with ie := true, trace := s.answered .ok 0 }
  | .tmrIrqOff => { s with ie := false, trace := s.answered .ok 0 }
  | .tmrClrFlag => { s with flag := false, trace := s.answered .ok 0 }
  | .tmrFlag => { s with flag := false, trace := s.answered .ok (zext64 s.flagBit) }
  | .mscInit f =>
    { s with
      ms := 0, flag := false, reload := reloadFor (f / 1000), ie := true, count := 0, run := true, clksrc := true
      trace := s.answered .ok 0 }
  | .mscNow => { s with ie := true, trace := s.answered .ok s.ms }
  | .mscWait d => { s with ie := true, deadline := trunc 64 ((s.ms.toNat : Int) + (d : Int)), waiting := true }
  | .texSetPeriod m =>
    { s with xperiod := trunc 32 (m : Int), xcount := 0, ie := true, trace := s.answered .ok 0 }
  | .srvInit =>
    { s with
      pinOe := true, newPos := 90, curPos := 90, onTime := (pulse s.cfg 90).1, offTime := (pulse s.cfg 90).2
      pin := true, reload := reloadFor (pulse s.cfg 90).1.toNat, ie := true
      count := if s.run then s.count else 0, run := true, clksrc := true, phase := .lowPending
      trace := .response ⟨.ok, 90⟩ :: .event .pinHigh :: .event .pinLow :: s.trace }
  | .srvSetAbs a =>
    { s with newPos := trunc 32 (upperClamp a), trace := s.answered .ok (sext64 (trunc 32 (upperClamp a))) }
  | .srvSetRel d =>
    { s with
      newPos := trunc 32 (clamp (s.curPos.toInt + d) 0 180)
      trace := s.answered .ok (sext64 (trunc 32 (clamp (s.curPos.toInt + d) 0 180))) }

/-- R76 (2), (3): a command has its effect where its unit is, and is answered elsewhere. -/
theorem exec_eq (i : Instr) (s : State) :
    exec i s = .next
      (if availableUnder s.cfg.sink i then effect s i else { s with trace := s.answered .sinkUnavailable 0 }) := by
  cases i <;> first
    | rfl
    | (cases hs : s.cfg.sink <;>
        simp [exec, availableUnder, execMscInit, execMscNow, execMscWait, execTexSetPeriod, execSrvInit,
          execSrvSetAbs, execSrvSetRel, clockPresent, dispatcherPresent, servoPresent, hs] <;> rfl)

/-- R76, R210: a word that runs has its command's effect, and any other leaves only its answer. -/
theorem runWord_effect {w : Word40} {s t : State} (h : runWord w s = .next t) :
    (∃ i, decode w = .ok i ∧ availableUnder s.cfg.sink i = true ∧ t = effect s i) ∨
    (∃ st, t = { s with trace := s.answered st 0 }) := by
  rcases runWord_cases w s with ⟨i, hd, hr⟩ | ⟨_, _, hr⟩
  · rw [hr, exec_eq] at h
    cases ha : availableUnder s.cfg.sink i with
    | true => exact .inl ⟨i, hd, ha, by simpa [ha] using h.symm⟩
    | false => exact .inr ⟨_, by simpa [ha] using h.symm⟩
  · rw [hr] at h
    exact .inr ⟨_, by simpa [State.respond, State.answered] using h.symm⟩

/-- What no command changes: the configuration, the environment's moves, the draws and the polling. -/
theorem effect_frame (i : Instr) (s : State) :
    (effect s i).cfg = s.cfg ∧ (effect s i).agenda = s.agenda ∧ (effect s i).draws = s.draws ∧
    (effect s i).poll = s.poll := by
  cases i <;> exact ⟨rfl, rfl, rfl, rfl⟩

/-- R9, R11: everything one step can do, every command as its `effect`. `u` is the block before the step with
the agenda, the draws and the polling that scheduling leaves. -/
theorem step_effect {s t : State} (h : step s = .next t) :
    (s.nextKind = .reset ∧ t = { State.resetWith s.cfg with agenda := t.agenda, draws := t.draws }) ∨
    (s.irq = true ∧ s.nextKind = .service ∧ t = (s.mark .service).service) ∨
    (s.irq = false ∧ s.nextKind = .cycle ∧ ∃ u, s.sameBlock u ∧ t = (u.mark .cycle).cycle) ∨
    (s.irq = false ∧ s.waitOver = true ∧ s.nextKind = .waitDone ∧
      ∃ u, s.sameBlock u ∧ t = (u.mark .waitDone).waitDone) ∨
    (s.irq = false ∧ s.waiting = false ∧ ∃ w u, s.sameBlock u ∧ s.nextKind = .cmd w ∧
      ((∃ i, decode w = .ok i ∧ availableUnder s.cfg.sink i = true ∧ t = effect (u.mark (.cmd w)) i) ∨
        (∃ st, t = { (u.mark (.cmd w)) with trace := (u.mark (.cmd w)).answered st 0 }))) := by
  rcases step_cases h with ⟨r, _, hk, ht⟩ | ⟨_, hi, hk, ht⟩ | h | h | ⟨hi, hw, w, r, _, hk, hr⟩
  · exact .inl ⟨hk, by subst ht; rfl⟩
  · exact .inr (.inl ⟨hi, hk, ht⟩)
  · exact .inr (.inr (.inl h))
  · exact .inr (.inr (.inr (.inl h)))
  · exact .inr (.inr (.inr (.inr ⟨hi, hw, w, { s with agenda := r }, rfl, hk, runWord_effect hr⟩)))

/-- The command of a step that runs a word. -/
theorem command_cmd {w : Word40} {i : Instr} (h : decode w = .ok i) : (StepKind.cmd w).command = some i := by
  simp [StepKind.command, h]

end Sys2Proof.Machine
end

