-- ==== Sys2Proof/Laws/PerInstr.lean ====
section
/-! SUPPORT. One statement per command, about the command as syntax: where its two fields stand in its word
(spec rules R70, R71, R79). -/

namespace Sys2Proof.Laws.OpcodeField

/-- R70, R71, R79: the opcode stands in bits 39:32 and the operand in bits 31:0, which are 0 in format `N`. -/
def Statement (i : Instr) : Prop :=
  opcodeOf (encode i) = i.opcode ∧ argOf (encode i) = i.arg ∧ (i.format = .n → argOf (encode i) = 0)

theorem tmrStart : Statement .tmrStart :=
  ⟨opcodeOf_encode _, argOf_encode _, fun _ => argOf_encode _⟩

theorem tmrStop : Statement .tmrStop :=
  ⟨opcodeOf_encode _, argOf_encode _, fun _ => argOf_encode _⟩

theorem tmrSetPeriod (p : Nat) : Statement (.tmrSetPeriod p) :=
  ⟨opcodeOf_encode _, argOf_encode _, fun h => Format.noConfusion h⟩

theorem tmrGetPeriod : Statement .tmrGetPeriod :=
  ⟨opcodeOf_encode _, argOf_encode _, fun _ => argOf_encode _⟩

theorem tmrGetCount : Statement .tmrGetCount :=
  ⟨opcodeOf_encode _, argOf_encode _, fun _ => argOf_encode _⟩

theorem tmrIrqOn : Statement .tmrIrqOn :=
  ⟨opcodeOf_encode _, argOf_encode _, fun _ => argOf_encode _⟩

theorem tmrIrqOff : Statement .tmrIrqOff :=
  ⟨opcodeOf_encode _, argOf_encode _, fun _ => argOf_encode _⟩

theorem tmrClrFlag : Statement .tmrClrFlag :=
  ⟨opcodeOf_encode _, argOf_encode _, fun _ => argOf_encode _⟩

theorem tmrFlag : Statement .tmrFlag :=
  ⟨opcodeOf_encode _, argOf_encode _, fun _ => argOf_encode _⟩

theorem mscInit (f : Nat) : Statement (.mscInit f) :=
  ⟨opcodeOf_encode _, argOf_encode _, fun h => Format.noConfusion h⟩

theorem mscNow : Statement .mscNow :=
  ⟨opcodeOf_encode _, argOf_encode _, fun _ => argOf_encode _⟩

theorem mscWait (d : Nat) : Statement (.mscWait d) :=
  ⟨opcodeOf_encode _, argOf_encode _, fun h => Format.noConfusion h⟩

theorem texSetPeriod (m : Nat) : Statement (.texSetPeriod m) :=
  ⟨opcodeOf_encode _, argOf_encode _, fun h => Format.noConfusion h⟩

theorem srvInit : Statement .srvInit :=
  ⟨opcodeOf_encode _, argOf_encode _, fun _ => argOf_encode _⟩

theorem srvSetAbs (a : Int) : Statement (.srvSetAbs a) :=
  ⟨opcodeOf_encode _, argOf_encode _, fun h => Format.noConfusion h⟩

theorem srvSetRel (d : Int) : Statement (.srvSetRel d) :=
  ⟨opcodeOf_encode _, argOf_encode _, fun h => Format.noConfusion h⟩

end Sys2Proof.Laws.OpcodeField
end

