-- ==== Sys2Proof/Tests/Slice0.lean ====
section
/-! SUPPORT. The model's own tests. Expected values are the spec's: the words and vectors of
spec/95_test_vectors.md (named T1, M1, X1, V1, E1, Z1, H1 ... there) and of R79. After them, for every
statement with hypotheses, a witness that they can hold together, one for each clause. -/

open Sys2Proof Sys2Proof.Machine

namespace Sys2Proof.Tests

/-! ### Helpers -/

/-- The state after `Reset` under a strap, with the spec's parameters `EX2` (R7). -/
def fresh (k : Sink) : State := State.resetWith (Config.ex2 k)

/-- A pending `Service` under a strap. -/
def pending (k : Sink) : State := { fresh k with flag := true, ie := true }

/-- The outcome is a next state with the property `p`. -/
def gives (r : Result) (p : State → Bool) : Bool :=
  match r with
  | .next t => p t
  | .fault _ => false
  | .refused _ => false

/-- The answer given last. -/
def lastAnswer (s : State) : Option (Status × Nat) :=
  match s.trace with
  | .response r :: _ => some (r.st, r.rsp.toNat)
  | _ => none

/-- The events since `Reset`, newest first. -/
def events (s : State) : List Event :=
  s.trace.filterMap fun o =>
    match o with
    | .event e => some e
    | .step _ => none
    | .response _ => none

/-- The run of `n` steps, if each gives a next state. -/
def runSteps : Nat → State → Option (List StepKind × State)
  | 0, s => some ([], s)
  | n + 1, s =>
    match step s with
    | .next u =>
      match runSteps n u with
      | some (ks, t) => some (s.nextKind :: ks, t)
      | none => none
    | .fault _ => none
    | .refused _ => none

theorem runSteps_path : ∀ (n : Nat) (s : State) {ks : List StepKind} {t : State},
    runSteps n s = some (ks, t) → Path s ks t
  | 0, s, ks, t, h => by simp only [runSteps, Option.some.injEq, Prod.mk.injEq] at h; rw [← h.1, ← h.2]; exact .done s
  | n + 1, s, ks, t, h => by
    unfold runSteps at h
    cases hs : step s with
    | next u =>
      rw [hs] at h
      cases hr : runSteps n u with
      | none => simp [hr] at h
      | some p =>
        simp only [hr, Option.some.injEq, Prod.mk.injEq] at h
        rw [← h.1, ← h.2]
        exact .cons hs (runSteps_path n u hr)
    | fault r => simp [hs] at h
    | refused r => simp [hs] at h

/-- A run of `n` steps with a property that can be evaluated. -/
def reaches (n : Nat) (s : State) (p : List StepKind → State → Bool) : Bool :=
  match runSteps n s with
  | some (ks, t) => p ks t
  | none => false

theorem reaches_path (n : Nat) (s : State) (p : List StepKind → State → Bool) (h : reaches n s p = true) :
    ∃ ks t, Path s ks t ∧ p ks t = true := by
  unfold reaches at h
  cases hr : runSteps n s with
  | none => simp [hr] at h
  | some q => exact ⟨q.1, q.2, runSteps_path n s hr, by simpa [hr] using h⟩

/-- `noReset` and `noCommand c`, evaluated. -/
def quiet (c : Instr → Bool) (ks : List StepKind) : Bool :=
  ks.all fun k => decide (k ≠ .reset) && (match k.command with
    | some i => !c i
    | none => true)

theorem quiet_noReset {c : Instr → Bool} {ks : List StepKind} (h : quiet c ks = true) : noReset ks := by
  intro hm
  have := List.all_eq_true.mp h _ hm
  simp at this

theorem quiet_noCommand {c : Instr → Bool} {ks : List StepKind} (h : quiet c ks = true) : noCommand c ks := by
  intro k hk i hi
  have := List.all_eq_true.mp h k hk
  simp only [hi, Bool.and_eq_true, Bool.not_eq_true'] at this
  exact this.2

/-- A run without a `Reset` and without a command of the class `c`, with a property of its end. -/
theorem quiet_path (n : Nat) (s : State) (c : Instr → Bool) (p : List StepKind → State → Bool)
    (h : reaches n s (fun ks t => quiet c ks && p ks t) = true) :
    ∃ ks t, Path s ks t ∧ noReset ks ∧ noCommand c ks ∧ p ks t = true := by
  obtain ⟨ks, t, hp, h⟩ := reaches_path n s _ h
  rw [Bool.and_eq_true] at h
  exact ⟨ks, t, hp, quiet_noReset h.1, quiet_noCommand h.1, h.2⟩

/-! ### WellFormed refuses the ill-formed (R71, R79) -/

theorem test_wf_setPeriod_too_wide : (Instr.tmrSetPeriod 4294967296).wellFormed = false := by decide
theorem test_wf_init_too_wide : (Instr.mscInit 4294967296).wellFormed = false := by decide
theorem test_wf_wait_too_wide : (Instr.mscWait 4294967296).wellFormed = false := by decide
theorem test_wf_execPeriod_too_wide : (Instr.texSetPeriod 4294967296).wellFormed = false := by decide
theorem test_wf_setAbs_above : (Instr.srvSetAbs 2147483648).wellFormed = false := by decide
theorem test_wf_setAbs_below : (Instr.srvSetAbs (-2147483649)).wellFormed = false := by decide
theorem test_wf_setRel_above : (Instr.srvSetRel 2147483648).wellFormed = false := by decide
theorem test_wf_setRel_below : (Instr.srvSetRel (-2147483649)).wellFormed = false := by decide

/-! ### Decoding: words written out from R70, R75 and the vectors -/

/-- T9: format `N`, `ARG` ignored. -/
theorem test_decode_tmrStart : decode 0x00DEADBEEF = .ok .tmrStart := by decide
theorem test_decode_tmrStop : decode 0x0100000000 = .ok .tmrStop := by decide
theorem test_decode_tmrSetPeriod : decode 0x0200000BB8 = .ok (.tmrSetPeriod 3000) := by decide
theorem test_decode_tmrGetPeriod : decode 0x0300000000 = .ok .tmrGetPeriod := by decide
theorem test_decode_tmrGetCount : decode 0x0400000000 = .ok .tmrGetCount := by decide
theorem test_decode_tmrIrqOn : decode 0x0500000000 = .ok .tmrIrqOn := by decide
theorem test_decode_tmrIrqOff : decode 0x0600000000 = .ok .tmrIrqOff := by decide
theorem test_decode_tmrClrFlag : decode 0x0700000000 = .ok .tmrClrFlag := by decide
theorem test_decode_tmrFlag : decode 0x0800000000 = .ok .tmrFlag := by decide
theorem test_decode_mscInit : decode 0x10002DC6C0 = .ok (.mscInit 3000000) := by decide
theorem test_decode_mscNow : decode 0x1100000000 = .ok .mscNow := by decide
theorem test_decode_mscWait : decode 0x1200000002 = .ok (.mscWait 2) := by decide
theorem test_decode_texSetPeriod : decode 0x20FFFFFFFF = .ok (.texSetPeriod 4294967295) := by decide
theorem test_decode_srvInit : decode 0x3000000000 = .ok .srvInit := by decide
theorem test_decode_srvSetAbs : decode 0x3180000000 = .ok (.srvSetAbs (-2147483648)) := by decide
theorem test_decode_srvSetRel : decode 0x32FFFFFC18 = .ok (.srvSetRel (-1000)) := by decide

/-- E3, E4. -/
theorem test_decode_illegal :
    decode 0x0900000000 = .error (.illegalOpcode 0x09) ∧ decode 0x0F12345678 = .error (.illegalOpcode 0x0F) ∧
    decode 0x1300000000 = .error (.illegalOpcode 0x13) ∧ decode 0x2100000000 = .error (.illegalOpcode 0x21) ∧
    decode 0x3300000000 = .error (.illegalOpcode 0x33) ∧ decode 0x4000000000 = .error (.illegalOpcode 0x40) ∧
    decode 0xFF00000000 = .error (.illegalOpcode 0xFF) := by decide

/-- R79's words, the other way. -/
theorem test_encode : encode (.mscInit 3000000) = 0x10002DC6C0 ∧ encode (.srvSetAbs 200) = 0x31000000C8 := by decide

theorem test_table_word : decodeTableWord 40 0x32FFFFFC18 = some (.srvSetRel (-1000)) ∧
    decodeTableWord 40 0x0900000000 = none := by decide

theorem test_fetch : gives (step (State.reset.withFetchWord 40 0x0200000BB8))
    (fun t => t.reload == 2999 && lastAnswer t == some (.ok, 0)) = true := by decide

/-! ### The timer -/

theorem test_tmrStart_T8 : gives (runWord 0x0000000000 { fresh .none with count := 7 })
    (fun t => t.run && t.clksrc && t.count == 0 && lastAnswer t == some (.ok, 0)) = true := by decide
theorem test_tmrStart_T9 : gives (runWord 0x00DEADBEEF { fresh .none with count := 7, run := true, clksrc := true })
    (fun t => t.run && t.clksrc && t.count == 7 && lastAnswer t == some (.ok, 0)) = true := by decide
theorem test_tmrStop_T10 : gives (runWord 0x0100000000 { fresh .none with count := 5, run := true, clksrc := true })
    (fun t => !t.run && t.clksrc && t.count == 5) = true := by decide
theorem test_tmrSetPeriod_T1 : gives (runWord 0x0200000BB8 (fresh .none)) (fun t => t.reload == 0xBB7) = true := by decide
theorem test_tmrSetPeriod_T3 : gives (runWord 0x0200000000 (fresh .none)) (fun t => t.reload == 0xFFFFFF) = true := by
  decide
theorem test_tmrGetPeriod_T3 : gives (runWord 0x0300000000 { fresh .none with reload := 0xFFFFFF })
    (fun t => lastAnswer t == some (.ok, 16777216)) = true := by decide
theorem test_tmrGetPeriod_T18 : gives (runWord 0x0300000000 (fresh .servo))
    (fun t => lastAnswer t == some (.ok, 1)) = true := by decide
theorem test_tmrGetCount : gives (runWord 0x0400000000 { fresh .none with count := 0xFFFFFF, reload := 5 })
    (fun t => lastAnswer t == some (.ok, 16777215)) = true := by decide
theorem test_tmrIrqOn_T15 : gives (runWord 0x0500000000 { fresh .msClock with flag := true, ms := 4 })
    (fun t => t.ie && t.flag && t.ms == 4 && t.nextKind == .service) = true := by decide
theorem test_tmrIrqOff_T17 : gives (runWord 0x0600000000 { fresh .none with ie := true, flag := true })
    (fun t => !t.ie && t.flag) = true := by decide
theorem test_tmrClrFlag_T16 : gives (runWord 0x0700000000 { fresh .msClock with flag := true, ms := 4 })
    (fun t => !t.flag && t.ms == 4 && lastAnswer t == some (.ok, 0)) = true := by decide
theorem test_tmrFlag_T12 : gives (runWord 0x0800000000 { fresh .none with flag := true })
    (fun t => !t.flag && lastAnswer t == some (.ok, 1)) = true := by decide
theorem test_tmrFlag_T18 : gives (runWord 0x0800000000 (fresh .none))
    (fun t => !t.flag && lastAnswer t == some (.ok, 0)) = true := by decide

/-- T11: reload at 0. -/
theorem test_cycle_reload : gives (step { fresh .none with run := true, reload := 3 })
    (fun t => t.count == 3 && !t.flag) = true := by decide
/-- T11, T13: the expiry, with the flag already set or not. -/
theorem test_cycle_expiry : gives (step { fresh .none with run := true, reload := 3, count := 1 })
    (fun t => t.count == 0 && t.flag) = true := by decide
/-- T14: period 1. -/
theorem test_cycle_period_one : gives (step { fresh .none with run := true })
    (fun t => t.count == 0 && t.flag) = true := by decide

/-! ### The millisecond clock -/

theorem test_mscInit_M2 : gives (runWord 0x1000004E20
      { fresh .msClock with ms := 77, run := true, clksrc := true, count := 3, flag := true })
    (fun t => t.ms == 0 && t.reload == 19 && t.count == 0 && t.run && t.ie && t.clksrc && !t.flag) = true := by decide
theorem test_mscInit_M3 : gives (runWord 0x10000003E7 (fresh .timedExec)) (fun t => t.reload == 0xFFFFFF) = true := by
  decide
theorem test_mscNow_M9 : gives (runWord 0x1100000000 { fresh .msClock with ms := 3 })
    (fun t => t.ie && lastAnswer t == some (.ok, 3)) = true := by decide
theorem test_mscNow_E5 : gives (runWord 0x1100000000 (fresh .none))
    (fun t => !t.ie && lastAnswer t == some (.sinkUnavailable, 0)) = true := by decide
theorem test_mscWait_M11 : gives (runWord 0x1200000002 { fresh .msClock with ms := 7 })
    (fun t => t.deadline == 9 && t.waiting && t.ie && lastAnswer t == none) = true := by decide
theorem test_mscWait_E5 : gives (runWord 0x1200000001 (fresh .servo))
    (fun t => !t.waiting && lastAnswer t == some (.sinkUnavailable, 0)) = true := by decide
/-- M12, program 5: the answer comes at `WaitDone`. -/
theorem test_waitDone : gives (step { fresh .msClock with ms := 1, deadline := 1, waiting := true, ie := true, agenda := [.waitDone] })
    (fun t => !t.waiting && lastAnswer t == some (.ok, 0)) = true := by decide
theorem test_service_M15 : gives (step { fresh .msClock with ms := 0xFFFFFFFFFFFFFFFF, ie := true, flag := true })
    (fun t => t.ms == 0 && !t.flag && t.ie) = true := by decide

/-! ### The dispatcher -/

theorem test_texSetPeriod_X7 : gives (runWord 0x20FFFFFFFF { fresh .timedExec with xperiod := 5, xcount := 4 })
    (fun t => t.xperiod == 4294967295 && t.xcount == 0 && t.ie) = true := by decide
theorem test_texSetPeriod_E6 : gives (runWord 0x2000000003 (fresh .msClock))
    (fun t => t.xperiod == 0 && !t.ie && lastAnswer t == some (.sinkUnavailable, 0)) = true := by decide
theorem test_service_X2 : gives (step { fresh .timedExec with xperiod := 3, xcount := 2, ms := 10, flag := true, ie := true })
    (fun t => !t.flag && t.ms == 11 && t.xcount == 0 && events t == [.execCb]) = true := by decide
theorem test_service_X3 : gives (step { fresh .timedExec with xperiod := 3, ms := 11, flag := true, ie := true })
    (fun t => t.ms == 12 && t.xcount == 1 && events t == []) = true := by decide

/-! ### The servo -/

theorem test_srvInit_V1 : gives (runWord 0x3000000000 (fresh .servo))
    (fun t => t.newPos == 90 && t.curPos == 90 && t.onTime == 110 && t.offTime == 290 && t.reload == 109 && t.count == 0 &&
      t.run && t.ie && t.clksrc && t.pin && t.pinOe && t.phase == .lowPending && events t == [.pinHigh, .pinLow] &&
      lastAnswer t == some (.ok, 90)) = true := by decide
/-- H1: neither the flag nor, on a running timer (H2), the count is cleared. -/
theorem test_srvInit_H2 : gives (runWord 0x3000000000 { fresh .servo with run := true, count := 990, flag := true })
    (fun t => t.count == 990 && t.flag && t.reload == 109) = true := by decide
theorem test_srvSetAbs_V3 : gives (runWord 0x317FFFFFFF (fresh .servo))
    (fun t => t.newPos == 180 && lastAnswer t == some (.ok, 180)) = true := by decide
theorem test_srvSetAbs_V5 : gives (runWord 0x3180000000 (fresh .servo))
    (fun t => t.newPos.toInt == -2147483648 && lastAnswer t == some (.ok, 0xFFFFFFFF80000000)) = true := by decide
theorem test_srvSetRel_V6 : gives (runWord 0x32FFFFFFF1 { fresh .servo with curPos := 90, newPos := 30 })
    (fun t => t.newPos == 75 && t.curPos == 90 && lastAnswer t == some (.ok, 75)) = true := by decide
theorem test_srvSetRel_V11 : gives (runWord 0x3280000000 { fresh .servo with curPos := 0x80000000 })
    (fun t => t.newPos == 0 && lastAnswer t == some (.ok, 0)) = true := by decide
theorem test_service_V13 : gives (step { fresh .servo with newPos := 180, curPos := 90, flag := true, ie := true })
    (fun t => !t.flag && t.curPos == 180 && t.onTime == 200 && t.offTime == 200 && t.pin && t.reload == 199 && t.run &&
      t.phase == .lowPending && events t == [.pinHigh]) = true := by decide
theorem test_service_V14 : gives (step { fresh .servo with phase := .lowPending, offTime := 290, pin := true, flag := true, ie := true })
    (fun t => !t.flag && !t.pin && t.reload == 289 && t.phase == .highPending && events t == [.pinLow]) = true := by
  decide
/-- The table of pulses, the row of -21: `ON_TIME` wraps. -/
theorem test_pulse_wraps : pulse (Config.ex2 .servo) (trunc 32 (-21)) = (0xFFFFFFFF, 401) := by decide

/-! ### Other steps, and text -/

/-- R13, H4: the line is undriven until `SRV.INIT`, whatever `PIN` is. -/
theorem test_outputs : ({ fresh .servo with pin := true } : State).servoOut = none ∧
    ({ fresh .servo with pin := true, pinOe := true } : State).servoOut = some true ∧
    ({ fresh .servo with flag := true } : State).irqOut = false := by decide

/-- E1. -/
theorem test_service_E1 : gives (step { fresh .none with flag := true, ie := true, ms := 4 })
    (fun t => !t.flag && t.ms == 4 && t.ie) = true := by decide
/-- E3. -/
theorem test_illegal_E3 : gives (runWord 0x0900000000 (fresh .servo))
    (fun t => lastAnswer t == some (.illegalOpcode, 0)) = true := by decide
/-- Z2. -/
theorem test_reset_Z2 : gives (step { fresh .msClock with waiting := true, deadline := 9, ms := 7, agenda := [.reset] })
    (fun t => t == fresh .msClock) = true := by decide
/-- R81: the count of `@cycle` in either form of numeral (notes/assumptions/9.md). -/
theorem test_script_numerals : directiveOf "@cycle 0x41".toList = .ok (some (.cycle 65)) ∧
    directiveOf "@cycle -1".toList = .error .badDirective := by decide
/-- R81, program 1's lines. -/
theorem test_script_lines : directiveOf "@sink MSCLOCK".toList = .ok (some (.sink .msClock)) ∧
    directiveOf "@cycle 65".toList = .ok (some (.cycle 65)) ∧
    directiveOf "MSC.NOW              ; 0x1100000000".toList = .ok (some (.command 0x1100000000)) ∧
    directiveOf "    ; 0x0900000000".toList = .ok none := by decide
/-- R81, R206 (c): the `Service` that `@cycle 1` enables is taken before `@reset`. -/
theorem test_script_reset : (runSteps 3 { scriptStart [.cycle 1, .reset] with run := true, ie := true }).map Prod.fst =
    some [.cycle, .service, .reset] := by decide
/-- R206 (d): a `Reset` at once discards the pending `Service`. -/
theorem test_reset_at_once : gives (step { pending .msClock with agenda := [.resetAtOnce] }) (fun t => t == fresh .msClock) = true := by
  decide
/-- R81: the moves of a script. -/
theorem test_script_start : (scriptStart [.sink .msClock, .reset, .command 0x1100000000, .cycle 2]).agenda =
    [.reset, .cmd 0x1100000000, .cycle, .cycle] := by decide

/-! ### Witnesses: the hypotheses of each statement hold together, clause by clause -/

/-- Operands at both ends of their ranges, and a command without one. -/
theorem witness_DecodeOfEncode : (Instr.tmrSetPeriod 4294967295).wellFormed = true ∧ (Instr.mscWait 0).wellFormed = true ∧
    (Instr.srvSetAbs (-2147483648)).wellFormed = true ∧ (Instr.srvSetRel 2147483647).wellFormed = true ∧
    Instr.tmrStart.wellFormed = true := by decide

theorem witness_EncodeOfDecode : decode 0x08FFFFFFFF = .ok .tmrFlag ∧ Instr.tmrFlag.format = .n ∧
    decode 0x32FFFFFFFF = .ok (.srvSetRel (-1)) ∧ (Instr.srvSetRel (-1)).format ≠ .n := by decide

/-- Opcodes at the ends of the groups of R75. -/
theorem witness_SixteenOpcodes_in (w : Word40) (h : w ∈ ([0x00FFFFFFFF, 0x0800000000, 0x1200000000, 0x32FFFFFFFF] : List Word40)) :
    (opcodeOf w).toNat ∈ [0x00, 0x01, 0x02, 0x03, 0x04, 0x05, 0x06, 0x07, 0x08, 0x10, 0x11, 0x12, 0x20, 0x30, 0x31, 0x32] := by
  simp only [List.mem_cons, List.not_mem_nil, or_false] at h
  rcases h with rfl | rfl | rfl | rfl <;> decide

/-- Their neighbours outside. -/
theorem witness_SixteenOpcodes_out (w : Word40) (h : w ∈ ([0x0900000000, 0x0FFFFFFFFF, 0x1300000000, 0x33FFFFFFFF] : List Word40)) :
    (opcodeOf w).toNat ∉ [0x00, 0x01, 0x02, 0x03, 0x04, 0x05, 0x06, 0x07, 0x08, 0x10, 0x11, 0x12, 0x20, 0x30, 0x31, 0x32] := by
  simp only [List.mem_cons, List.not_mem_nil, or_false] at h
  rcases h with rfl | rfl | rfl | rfl <;> decide

theorem witness_FormatNIgnores :
    (opcodeOf 0x0000000000 = opcodeOf 0x00FFFFFFFF ∧ decode 0x0000000000 = .ok .tmrStart ∧ Instr.tmrStart.format = .n) ∧
    (opcodeOf 0x1000000000 = opcodeOf 0x1000000000 ∧ decode 0x1000000000 = .ok (.mscInit 0) ∧ (Instr.mscInit 0).format ≠ .n) := by
  decide

/-- M14: a wait on a timer never started. -/
def hung : State := { fresh .msClock with waiting := true, ie := true, deadline := 1 }

/-- The next move is the word `w`, and nothing holds it off. -/
def port (k : Sink) (w : Word40) : State := { fresh k with agenda := [.cmd w] }

theorem witness_StepRuns : (port .none 0x00DEADBEEF).agenda = .cmd 0x00DEADBEEF :: [] ∧
    (port .none 0x00DEADBEEF).irq = false ∧ (port .none 0x00DEADBEEF).waiting = false ∧
    decode 0x00DEADBEEF = .ok .tmrStart := by decide

theorem witness_IllegalOpcode : (port .servo 0x0900000000).agenda = .cmd 0x0900000000 :: [] ∧
    (port .servo 0x0900000000).irq = false ∧ (port .servo 0x0900000000).waiting = false ∧
    (opcodeOf 0x0900000000).toNat ∉ [0x00, 0x01, 0x02, 0x03, 0x04, 0x05, 0x06, 0x07, 0x08, 0x10, 0x11, 0x12, 0x20, 0x30, 0x31, 0x32] := by
  decide

/-- Each strap is some state's. -/
theorem witness_AbsentSink : ∀ k : Sink, (fresh k).cfg.sink = k := by
  intro k; cases k <;> rfl

/-- A `Reset` at once, and one that waits for the `Service`. -/
theorem witness_ServiceIsForced_reset :
    (let s := { pending .servo with agenda := [.resetAtOnce] }
     s.flag = true ∧ s.ie = true ∧ s.agenda = .resetAtOnce :: []) ∧
    (let s := { pending .servo with agenda := [.reset] }
     s.flag = true ∧ s.ie = true ∧ (∀ rest, s.agenda ≠ .resetAtOnce :: rest) ∧ s.agenda = .reset :: []) :=
  ⟨by decide, rfl, rfl, (fun _ h => nomatch h), rfl⟩

/-- For `ServiceIsForcedWhileIrqHolds` and the five statements of one `Service` step. -/
theorem witness_Service : ∀ k : Sink, (pending k).flag = true ∧ (pending k).ie = true ∧
    (∀ rest, (pending k).agenda ≠ .resetAtOnce :: rest) ∧ (pending k).cfg.sink = k := by
  intro k; cases k <;> exact ⟨rfl, rfl, (fun _ h => nomatch h), rfl⟩

/-- The three cases of `ServiceUnderTimedExec`, the greatest `XPERIOD` among them. -/
theorem witness_ServiceUnderTimedExec :
    (pending .timedExec).xperiod.toNat = 0 ∧
    (let s := { pending .timedExec with xperiod := 0xFFFFFFFF, xcount := 0xFFFFFFFE }
     s.xperiod.toNat > 0 ∧ s.xcount.toNat < s.xperiod.toNat ∧ s.xcount.toNat + 1 = s.xperiod.toNat) ∧
    (let s := { pending .timedExec with xperiod := 0xFFFFFFFF, xcount := 0xFFFFFFFD }
     s.xperiod.toNat > 0 ∧ s.xcount.toNat < s.xperiod.toNat ∧ s.xcount.toNat + 1 ≠ s.xperiod.toNat) := by decide

theorem witness_ServoService : (pending .servo).phase = .highPending ∧
    ({ pending .servo with phase := .lowPending } : State).phase = .lowPending := by decide

/-- The heads that are made, the heads that are held, and both ends of `MS >= DEADLINE`. -/
theorem witness_EnabledMoves :
    (∀ m ∈ ([.reset, .resetAtOnce, .cycle, .cmd 0x0100000000] : List Move),
      (let s := { fresh .msClock with flag := true, agenda := [m] }; (s.flag && s.ie) = false ∧ s.waiting = false)) ∧
    (let s := { fresh .msClock with waiting := true, ie := true, ms := 9, deadline := 9, agenda := [.waitDone] }
     (s.flag && s.ie) = false ∧ s.waiting = true ∧ s.deadline.toNat ≤ s.ms.toNat) ∧
    (let s := { fresh .msClock with waiting := true, ie := true, ms := 8, deadline := 9, agenda := [.waitDone] }
     (s.flag && s.ie) = false ∧ ¬ (s.waiting = true ∧ s.deadline.toNat ≤ s.ms.toNat)) ∧
    (let s := { fresh .msClock with waiting := true, ie := true, agenda := [.cmd 0x0100000000] }
     (s.flag && s.ie) = false ∧ s.waiting = true) ∧
    (port .none 0x0100000000).nextKind = .cmd 0x0100000000 ∧
    ({ fresh .msClock with waiting := true, ie := true, agenda := [.waitDone] } : State).nextKind = .waitDone := by decide

/-- A run R11 allows that has a `Reset` right after a `Service` (Z1), and one that has it instead. -/
theorem witness_Allowed :
    Enabled (pending .msClock) .service ∧ Allowed (pending .msClock) [.service, .reset] (fresh .msClock) ∧
    Enabled (pending .msClock) .reset ∧ Allowed (pending .msClock) [.reset] (fresh .msClock) :=
  ⟨rfl, .cons rfl rfl (.cons trivial rfl (.done _)), trivial, .cons trivial rfl (.done _)⟩

theorem witness_Path : ∃ t, Path { pending .msClock with agenda := [.reset] } [.service, .reset] t :=
  ⟨_, runSteps_path 2 _ rfl⟩

theorem witness_Cycle :
    (let s := { fresh .none with agenda := [.cycle] }; s.agenda = .cycle :: [] ∧ s.irq = false ∧ s.run = false) ∧
    (let s := { fresh .none with agenda := [.cycle], run := true, flag := true }
     s.agenda = .cycle :: [] ∧ s.irq = false ∧ s.run = true) := by decide

/-- The `Cycle` of an empty agenda, and those of a command and a `WaitDone` that are held. -/
theorem witness_Cycle_alone : ∀ run ∈ [false, true],
    ({ fresh .none with run := run } : State).nextKind = .cycle ∧
    ({ hung with run := run, agenda := [.cmd 0x0100000000] } : State).nextKind = .cycle ∧
    ({ hung with run := run, agenda := [.waitDone] } : State).nextKind = .cycle := by decide

theorem witness_WaitDone :
    (let s := { fresh .msClock with waiting := true, ie := true, ms := 2, deadline := 2, agenda := [.waitDone] }
     s.agenda = .waitDone :: [] ∧ s.irq = false ∧ s.waiting = true ∧ s.deadline.toNat ≤ s.ms.toNat ∧
     s.nextKind = .waitDone) := by decide

/-- The `WaitDone` of an empty agenda, where the polling has let its `Cycle` steps pass. -/
theorem witness_WaitDone_alone :
    (let s := { fresh .msClock with waiting := true, poll := some 0 }; s.waiting = true ∧ s.deadline.toNat ≤ s.ms.toNat ∧
     s.nextKind = .waitDone) := by decide

/-- A run whose `Cycle` steps are `n` at least, whatever `n` is taken: `MSC.WAIT 0` on a stopped timer. -/
theorem witness_WaitDone_run (n : Nat) : ∃ ks t,
    Path { fresh .msClock with waiting := true, agenda := List.replicate n .cycle } ks t ∧ noReset ks ∧
    (0 : Nat) + services ks < 2 ^ 64 ∧ n ≤ cycles ks := by
  suffices ∀ s : State, s.run = false → s.flag = false → s.agenda = List.replicate n .cycle →
      ∃ t, Path s (List.replicate n .cycle) t by
    obtain ⟨t, h⟩ := this { fresh .msClock with waiting := true, agenda := List.replicate n .cycle } rfl rfl rfl
    exact ⟨_, t, h, by simp [noReset, List.mem_replicate], by simp [services, List.count_replicate],
      by simp [cycles]⟩
  induction n with
  | zero => exact fun s _ _ _ => ⟨s, .done s⟩
  | succ n ih =>
    intro s hr hf ha
    have hs : s.schedule = (.cycle, { s with agenda := List.replicate n .cycle }) := by
      simp [State.schedule, State.irq, ha, hf, List.replicate_succ]
    obtain ⟨t, h⟩ := ih { s with agenda := List.replicate n .cycle, trace := s.stepped .cycle } hr hf rfl
    have := Path.cons (s := s) (by simp [step, take, hs, State.cycle, State.mark, hr]; rfl) h
    exact ⟨t, by simpa [State.nextKind, hs, List.replicate_succ] using this⟩

theorem witness_Reset :
    (let s := { pending .servo with waiting := true, agenda := [.resetAtOnce, .cycle] }; s.agenda = .resetAtOnce :: [.cycle]) ∧
    (let s := { fresh .servo with waiting := true, agenda := [.reset, .cycle] }
     s.agenda = .reset :: [.cycle] ∧ (s.flag && s.ie) = false) := by decide

/-- Words of the opcodes the per-command statements name, and the straps they name. -/
theorem witness_Commands : opcodeOf 0x00DEADBEEF = 0x00 ∧ opcodeOf 0x01FFFFFFFF = 0x01 ∧ opcodeOf 0x0200000BB8 = 0x02 ∧
    opcodeOf 0x0300000000 = 0x03 ∧ opcodeOf 0x0400000000 = 0x04 ∧ opcodeOf 0x0500000000 = 0x05 ∧
    opcodeOf 0x0600000000 = 0x06 ∧ opcodeOf 0x0700000000 = 0x07 ∧ opcodeOf 0x0800000000 = 0x08 ∧
    opcodeOf 0x10002DC6C0 = 0x10 ∧ opcodeOf 0x1100000000 = 0x11 ∧ opcodeOf 0x1200000002 = 0x12 ∧
    opcodeOf 0x2000000003 = 0x20 ∧ opcodeOf 0x3000000000 = 0x30 ∧ opcodeOf 0x31000000C8 = 0x31 ∧
    opcodeOf 0x32FFFFFC18 = 0x32 := by decide

theorem witness_CommandStates : (pending .none).flag = true ∧ (fresh .none).flag = false ∧
    (fresh .msClock).cfg.sink = .msClock ∧ (fresh .timedExec).cfg.sink = .timedExec ∧ (fresh .servo).cfg.sink = .servo ∧
    (fresh .none).cfg.sink ≠ .servo := by decide

/-- `TexSetPeriodRestartsTheCount` at both ends of the operand; `SrvSetAbsClampsOnlyAbove` likewise. -/
theorem witness_OperandRanges : (0 < 2 ^ 32 ∧ 4294967295 < 2 ^ 32) ∧
    ((-2 ^ 31 : Int) ≤ -2147483648 ∧ (-2147483648 : Int) < 2 ^ 31) ∧ ((-2 ^ 31 : Int) ≤ 2147483647 ∧ (2147483647 : Int) < 2 ^ 31) := by
  decide

/-- `IE` 0 to 1, and 1 to 0. -/
theorem witness_InterruptEnable :
    (let s := port .msClock 0x1100000000; s.ie = false ∧ gives (step s) (fun t => t.ie) = true) ∧
    (let s := { port .none 0x0600000000 with ie := true }; s.ie = true ∧ gives (step s) (fun t => !t.ie) = true) ∧
    (let s := { fresh .none with ie := true, agenda := [.reset] }; s.ie = true ∧ gives (step s) (fun t => !t.ie) = true) := by
  decide

/-- `FLAG` set by an expiry, set again, and cleared in each of the ways. -/
theorem witness_Flag :
    (let s := { fresh .none with run := true, count := 1 }
     s.flag = false ∧ s.nextKind = .cycle ∧ gives (step s) (fun t => t.flag && t.count == 0) = true) ∧
    (∀ s ∈ [pending .msClock, { port .none 0x0700000000 with flag := true }, { port .none 0x0800000000 with flag := true },
        { port .msClock 0x1000004E20 with flag := true }, { fresh .none with flag := true, agenda := [.reset] }],
      s.flag = true ∧ gives (step s) (fun t => !t.flag) = true) := by decide

theorem witness_ClockSourceAndPinEnable :
    (let s := { fresh .servo with clksrc := true, pinOe := true, agenda := [.reset] }
     s.clksrc = true ∧ s.pinOe = true ∧ gives (step s) (fun t => !t.clksrc && !t.pinOe) = true) ∧
    (let s := port .servo 0x3000000000; s.pinOe = false ∧ gives (step s) (fun t => t.pinOe) = true) := by decide

/-- `NoStepChangesTheConfiguration`: some step answers a next state. -/
theorem witness_SomeStep : gives (step (fresh .servo)) (fun _ => true) = true := by decide

/-- Each field is changed by each of its writers. -/
theorem witness_SinkFields :
    (∀ s ∈ [{ fresh .msClock with ms := 5, agenda := [.reset] }, pending .msClock, pending .timedExec,
        { port .msClock 0x1000004E20 with ms := 5 }], gives (step s) (fun t => t.ms != s.ms) = true) ∧
    (∀ s ∈ [{ fresh .timedExec with xperiod := 5, agenda := [.reset] }, port .timedExec 0x2000000003],
      gives (step s) (fun t => t.xperiod != s.xperiod) = true) ∧
    (∀ s ∈ [{ fresh .timedExec with xcount := 5, agenda := [.reset] }, { pending .timedExec with xperiod := 3 },
        { port .timedExec 0x2000000003 with xcount := 2 }], gives (step s) (fun t => t.xcount != s.xcount) = true) := by decide

theorem witness_AnglesAreNotTorn :
    (let s := { fresh .servo with run := true, count := 5 }
     s.nextKind ≠ .reset ∧ ¬ (s.nextKind = .service ∧ s.cfg.sink = .servo) ∧ s.nextKind.command ≠ some .srvInit) ∧
    (port .servo 0x31000000C8).nextKind.command = some (.srvSetAbs 200) ∧
    (port .servo 0x32FFFFFC18).nextKind.command = some (.srvSetRel (-1000)) := by decide

/-- `Inv` and `Unselected` hold right after `Reset`, under every strap. -/
theorem witness_Inv (k : Sink) : Inv (fresh k) ∧ Unselected (fresh k) := by
  refine ⟨⟨?_, ?_, ?_, ?_, ?_, ?_, ?_, ?_, ?_, ?_, ?_⟩, ?_⟩ <;> cases k <;>
    simp [fresh, State.resetWith, Config.ex2, State.negativeCommanded, Unselected, State.clockAtReset,
      State.dispatcherAtReset, State.servoAtReset]

/-- A timer of period 1 with its interrupt on: `Service`, `Cycle`, `Service`. -/
theorem witness_TwoServices : (runSteps 3 { pending .msClock with run := true }).map Prod.fst =
    some ([.service] ++ [.cycle] ++ [.service]) := by decide

theorem witness_TwoServices_path : ∃ t, Path { pending .msClock with run := true } (.service :: ([.cycle] ++ [.service])) t :=
  ⟨_, runSteps_path 3 _ rfl⟩

/-- Expiries with the interrupt off: the flag is set and stays. -/
theorem witness_CriticalSection : ({ fresh .servo with run := true } : State).ie = false ∧
    ∃ ks t, Path { fresh .servo with run := true } ks t ∧ noReset ks ∧ noCommand setsIe ks ∧
      (t.flag && decide (cycles ks = 2)) = true :=
  ⟨rfl, quiet_path 2 _ setsIe (fun ks t => t.flag && decide (cycles ks = 2)) (by decide)⟩

/-- `TMR.START`, `TMR.IRQON`, one cycle of a period of 1, and `Service`. -/
theorem witness_NoServiceBefore : ∃ ks t,
    Path (State.afterReset (Config.ex2 .none) [.cmd 0x0000000000, .cmd 0x0500000000, .cycle] 0) ks t ∧
    decide (.service ∈ ks) = true :=
  reaches_path 4 _ (fun ks _ => decide (.service ∈ ks)) (by decide)

theorem witness_AWaitHangs : hung.waiting = true ∧ hung.run = false ∧ hung.flag = false ∧ hung.ms.toNat < hung.deadline.toNat ∧
    ∃ ks t, Path hung ks t ∧ noReset ks ∧ noCommand (fun _ => false) ks ∧ decide (cycles ks = 3) = true :=
  ⟨rfl, rfl, rfl, by decide, quiet_path 3 _ _ (fun ks _ => decide (cycles ks = 3)) (by decide)⟩

/-- `StoppedWaitNeverCompletesAsWritten`: a wait met with the timer stopped, in a run from `Reset` (M14). -/
theorem witness_StoppedWait : ∃ s, Reachable s ∧ (s.waiting && !s.run && decide (s.ms.toNat < s.deadline.toNat)) = true := by
  obtain ⟨ks, t, hp, h⟩ := reaches_path 1 (State.afterReset (Config.ex2 .msClock) [.cmd 0x1200000001] 0)
    (fun _ t => t.waiting && !t.run && decide (t.ms.toNat < t.deadline.toNat)) (by decide)
  exact ⟨t, ⟨_, _, _, ks, hp⟩, h⟩

/-- T11: a period of 4, run to its expiry; and no step yet. -/
theorem witness_PeriodLaw : ({ fresh .none with run := true, reload := 3 } : State).run = true ∧
    ({ fresh .none with run := true, reload := 3 } : State).count = 0 ∧
    (∃ ks t, Path { fresh .none with run := true, reload := 3 } ks t ∧ noReset ks ∧ noCommand disturbsPeriod ks ∧
      (t.flag && t.count == 0 && decide (cycles ks = 4)) = true) ∧
    (∃ ks t, Path { fresh .servo with run := true, reload := 3 } ks t ∧ noReset ks ∧ noCommand disturbsPeriod ks ∧
      (decide (cycles ks = 1) && decide (services ks = 0)) = true) :=
  ⟨rfl, rfl, quiet_path 4 _ disturbsPeriod (fun ks t => t.flag && t.count == 0 && decide (cycles ks = 4)) (by decide),
    quiet_path 1 _ disturbsPeriod (fun ks _ => decide (cycles ks = 1) && decide (services ks = 0)) (by decide)⟩

/-- Two milliseconds of one cycle each, under both straps that have the clock. -/
theorem witness_MillisecondsCount (k : Sink) (hk : k = .msClock ∨ k = .timedExec) :
    ∃ ks t, Path { fresh k with run := true, ie := true } ks t ∧ noReset ks ∧ noCommand initsClock ks ∧
      decide (services ks = 2) = true := by
  rcases hk with rfl | rfl <;> exact quiet_path 4 _ initsClock (fun ks _ => decide (services ks = 2)) (by decide)

/-- `MSC.INIT 2000`, and what it leaves. -/
def clockAt2000 : State :=
  { fresh .msClock with
    ms := 0, reload := 1, count := 0, run := true, ie := true, clksrc := true, flag := false, trace := (fresh .msClock).answered .ok 0 }

theorem witness_MillisecondsAreCycles : 1000 ≤ 2000 ∧ 2000 < 2 ^ 32 ∧ (fresh .msClock).cfg.sink = .msClock ∧
    exec (.mscInit 2000) (fresh .msClock) = .next clockAt2000 ∧
    ∃ ks t, Path clockAt2000 ks t ∧ noReset ks ∧
      noCommand (fun i => disturbsPeriod i || clearsFlag i || decide (i = .tmrIrqOff)) ks ∧
      (t.flag && decide (cycles ks = 4)) = true :=
  ⟨by decide, by decide, rfl, rfl, quiet_path 5 _ _ (fun ks t => t.flag && decide (cycles ks = 4)) (by decide)⟩

/-- `MSC.WAIT 1` on a timer of period 1, and the moment its `WaitDone` is next. -/
def waitingForOne : State := { fresh .msClock with run := true, agenda := [.cycle, .waitDone], ie := true, deadline := 1, waiting := true }

theorem witness_WaitLaw : 1 < 2 ^ 32 ∧ (0 : Nat) + 1 < 2 ^ 64 ∧
    exec (.mscWait 1) { fresh .msClock with run := true, agenda := [.cycle, .waitDone] } = .next waitingForOne ∧
    ∃ ks t, Path waitingForOne ks t ∧ noReset ks ∧ noCommand (fun _ => false) ks ∧
      (decide (.waitDone ∉ ks) && decide (t.nextKind = .waitDone) && t.ms == 1) = true :=
  ⟨by decide, by decide, rfl, quiet_path 2 _ _
    (fun ks t => decide (.waitDone ∉ ks) && decide (t.nextKind = .waitDone) && t.ms == 1) (by decide)⟩

/-- `TEX.SETPERIOD k` on a timer of period 1, and what it leaves. -/
def dispatching (x : U32) : State :=
  { fresh .timedExec with
    run := true, xperiod := x, xcount := 0, ie := true, trace := (fresh .timedExec).answered .ok 0 }

theorem witness_DispatchLaw :
    exec (.texSetPeriod 0) { fresh .timedExec with run := true } = .next (dispatching 0) ∧
    exec (.texSetPeriod 2) { fresh .timedExec with run := true } = .next (dispatching 2) ∧
    (∃ ks t, Path (dispatching 0) ks t ∧ noReset ks ∧ noCommand setsExecPeriod ks ∧ decide (services ks = 1) = true) ∧
    (∃ ks t, Path (dispatching 2) ks t ∧ noReset ks ∧ noCommand setsExecPeriod ks ∧
      (decide (services ks = 2) && decide (t.emitted .execCb = 1)) = true) :=
  ⟨rfl, rfl, quiet_path 2 _ _ (fun ks _ => decide (services ks = 1)) (by decide),
    quiet_path 4 _ _ (fun ks t => decide (services ks = 2) && decide (t.emitted .execCb = 1)) (by decide)⟩

/-- The ends of the angle, and the tightest well-formed configuration. -/
theorem witness_PulseWidths : (Config.ex1 .servo).servoWellFormed = true ∧ (Config.ex2 .servo).servoWellFormed = true ∧
    ({ sink := .servo, pwmPeriod := 16777216, minPulse := 16777215, oneDegreeIncrement := 0, fSrcHz := 0 } : Config).servoWellFormed = true ∧
    ({ sink := .servo, pwmPeriod := 2, minPulse := 1, oneDegreeIncrement := 0, fSrcHz := 0 } : Config).servoWellFormed = true ∧
    (0 : Int) ≤ (0 : S32).toInt ∧ (0 : S32).toInt ≤ 180 ∧ (0 : Int) ≤ (180 : S32).toInt ∧ (180 : S32).toInt ≤ 180 := by decide

/-- A servo whose period is 4 cycles, the high pulse 1. -/
def smallServo : State :=
  State.resetWith { sink := .servo, pwmPeriod := 4, minPulse := 1, oneDegreeIncrement := 0, fSrcHz := 0 }

/-- What `SRV.INIT` leaves of it. -/
def smallServoInit : State :=
  { smallServo with
    pinOe := true, pin := true, newPos := 90, curPos := 90, onTime := 1, offTime := 3, reload := 0, ie := true
    count := 0, run := true, clksrc := true, phase := .lowPending
    trace := [.response ⟨.ok, 90⟩, .event .pinHigh, .event .pinLow] }

theorem witness_Waveform_init : smallServo.cfg.servoWellFormed = true ∧ smallServo.cfg.sink = .servo ∧
    smallServo.run = false ∧ smallServo.flag = false ∧ exec .srvInit smallServo = .next smallServoInit := by
  refine ⟨by decide, rfl, rfl, rfl, rfl⟩

/-- After one cycle the high pulse has ended, and after four the next begins: the flag is set at both. -/
theorem witness_Waveform : ∀ n ∈ [0, 1, 5], ∃ ks t, Path smallServoInit ks t ∧ noReset ks ∧ noCommand disturbsWaveform ks ∧
    (t.flag == decide (n ≠ 0)) = true := by
  intro n hn
  simp only [List.mem_cons, List.not_mem_nil, or_false] at hn
  rcases hn with rfl | rfl | rfl
  · exact quiet_path 0 _ _ (fun _ t => t.flag == decide (0 ≠ 0)) (by decide)
  · exact quiet_path 1 _ _ (fun _ t => t.flag == decide (1 ≠ 0)) (by decide)
  · exact quiet_path 5 _ _ (fun _ t => t.flag == decide (5 ≠ 0)) (by decide)

/-- Along that run every latched angle is 90. -/
theorem witness_Waveform_angles : ∀ n ∈ [0, 1, 2, 3, 4, 5],
    (runSteps n smallServoInit).map (fun p => p.2.curPos.toInt) = some 90 := by decide

/-- `AnglesSaturate`: both sides of -820, and 1000. -/
theorem witness_AnglesSaturate :
    (let s := { fresh .servo with curPos := trunc 32 (-820) }; s.cfg.sink = .servo ∧ -820 ≤ s.curPos.toInt ∧ s.curPos.toInt ≤ 1000) ∧
    (let s := { fresh .servo with curPos := trunc 32 (-821) }; s.cfg.sink = .servo ∧ s.curPos.toInt < -820) ∧
    (let s := { fresh .servo with curPos := trunc 32 1000 }; s.cfg.sink = .servo ∧ s.curPos.toInt ≤ 1000) := by decide

theorem witness_CommandsIssuedTwice : Instr.srvInit ≠ .tmrFlag ∧ (∀ d, Instr.srvInit ≠ .mscWait d) ∧
    gives (exec .srvInit (fresh .servo)) (fun _ => true) = true ∧ gives (exec .tmrFlag (fresh .none)) (fun _ => true) = true :=
  ⟨by decide, (fun _ h => nomatch h), by decide, by decide⟩

/-- The sequences of `CompoundCommandsAreTheirSequences`, each from one state. -/
theorem witness_CompoundCommands :
    (∃ a b c d e t, exec .tmrStop { pending .msClock with ms := 0 } = .next a ∧ exec .tmrClrFlag a = .next b ∧
      exec (.tmrSetPeriod (20000 / 1000)) b = .next c ∧ exec .tmrIrqOn c = .next d ∧ exec .tmrStart d = .next e ∧
      exec (.mscInit 20000) (pending .msClock) = .next t) ∧
    (∃ a b t, exec .tmrIrqOff (fresh .timedExec) = .next a ∧ exec .tmrIrqOn a = .next b ∧ exec .mscNow (fresh .timedExec) = .next t) ∧
    (∃ a b t, exec .tmrIrqOff (fresh .timedExec) = .next a ∧
      exec .tmrIrqOn { a with xperiod := BitVec.ofNat 32 3, xcount := 0 } = .next b ∧
      exec (.texSetPeriod 3) (fresh .timedExec) = .next t) ∧
    (∃ a b c t, exec .srvInit (fresh .servo) = .next t ∧
      exec (.tmrSetPeriod t.onTime.toNat)
        { fresh .servo with
          pinOe := true, pin := true, newPos := 90, curPos := 90, onTime := t.onTime, offTime := t.offTime } = .next a ∧
      exec .tmrIrqOn a = .next b ∧ exec .tmrStart b = .next c) :=
  ⟨⟨_, _, _, _, _, _, rfl, rfl, rfl, rfl, rfl, rfl⟩, ⟨_, _, _, rfl, rfl, rfl⟩, ⟨_, _, _, rfl, rfl, rfl⟩,
    ⟨_, _, _, _, rfl, rfl, rfl, rfl⟩⟩

theorem witness_AssembledLines : assemble "SRV.SETREL -0x3E8 ; left".toList = .ok (some 0x32FFFFFC18) := by decide

/-- Program 3, then Z1: `@cycle 2` and `@reset`, with a `Service` pending from before. -/
theorem witness_CycleDirective :
    (let s := { pending .msClock with agenda := [.cycle, .cycle, .reset] }
     s.agenda = (Directive.cycle 2 :: [.reset]).flatMap Directive.moves ∧ s.irq = true) ∧
    ({ fresh .msClock with agenda := [.cycle] } : State).agenda = (Directive.cycle 1 :: []).flatMap Directive.moves := by decide

end Sys2Proof.Tests
end

/-! SUPPORT. The next step by the head of the agenda: one equation of `schedule` for each head, made or held
(R11, R206). -/

namespace Sys2Proof.Machine

variable {s t u : State} {k : StepKind} {w : Word40} {rest : List Move}

theorem nextKind_of_schedule (h : s.schedule = (k, u)) : s.nextKind = k := by rw [State.nextKind, h]

theorem step_of_schedule (h : s.schedule = (k, u)) : step s = take k u := by rw [step, h]

theorem waitOver_iff : s.waitOver = true ↔ s.waiting = true ∧ s.deadline.toNat ≤ s.ms.toNat := by
  simp [State.waitOver]

theorem irq_iff : s.irq = true ↔ s.flag = true ∧ s.ie = true := by simp [State.irq]

theorem schedule_resetAtOnce_head (ha : s.agenda = .resetAtOnce :: rest) :
    s.schedule = (.reset, { s with agenda := rest }) := by
  simp [State.schedule, ha]

theorem schedule_reset_head (ha : s.agenda = .reset :: rest) (hi : s.irq = false) :
    s.schedule = (.reset, { s with agenda := rest }) := by
  simp [State.schedule, ha, hi]

theorem schedule_cycle_head (ha : s.agenda = .cycle :: rest) (hi : s.irq = false) :
    s.schedule = (.cycle, { s with agenda := rest }) := by
  simp [State.schedule, ha, hi]

theorem schedule_cmd_head (ha : s.agenda = .cmd w :: rest) (hi : s.irq = false) (hw : s.waiting = false) :
    s.schedule = (.cmd w, { s with agenda := rest }) := by
  simp [State.schedule, ha, hi, hw]

theorem schedule_cmd_held (ha : s.agenda = .cmd w :: rest) (hi : s.irq = false) (hw : s.waiting = true) :
    s.schedule = s.idle := by
  simp [State.schedule, ha, hi, hw]

theorem schedule_waitDone_head (ha : s.agenda = .waitDone :: rest) (hi : s.irq = false) (hw : s.waitOver = true) :
    s.schedule = (.waitDone, { s with agenda := rest }) := by
  simp [State.schedule, ha, hi, hw]

theorem schedule_waitDone_held (ha : s.agenda = .waitDone :: rest) (hi : s.irq = false) (hw : s.waitOver = false) :
    s.schedule = s.idle := by
  simp [State.schedule, ha, hi, hw]

theorem schedule_nil (ha : s.agenda = []) (hi : s.irq = false) : s.schedule = s.idle := by
  simp [State.schedule, ha, hi]

/-- R11 (b): a `Cycle` that is no move of the agenda is one of an idle block. -/
theorem schedule_eq_idle_of_cycle (hk : s.nextKind = .cycle) (ha : ∀ rest, s.agenda ≠ .cycle :: rest) :
    s.schedule = s.idle := by
  obtain ⟨hi, -⟩ := schedule_cycle hk
  match h : s.agenda with
  | .resetAtOnce :: _ => simp [nextKind_of_schedule (schedule_resetAtOnce_head h)] at hk
  | .reset :: _ => simp [nextKind_of_schedule (schedule_reset_head h hi)] at hk
  | .cycle :: r => exact absurd h (ha r)
  | .cmd _ :: _ =>
    cases hw : s.waiting with
    | false => simp [nextKind_of_schedule (schedule_cmd_head h hi hw)] at hk
    | true => exact schedule_cmd_held h hi hw
  | .waitDone :: _ =>
    cases hw : s.waitOver with
    | true => simp [nextKind_of_schedule (schedule_waitDone_head h hi hw)] at hk
    | false => exact schedule_waitDone_held h hi hw
  | [] => exact schedule_nil h hi

end Sys2Proof.Machine

/-! SUPPORT. Single fields after a `Cycle` or a `Service` (R100, R203), the counts of a run's steps, and the operand
of a decoded command. -/

namespace Sys2Proof.Machine

variable {k : StepKind} {ks : List StepKind}

theorem cycle_cfg (s : State) : s.cycle.cfg = s.cfg := by rw [cycle_eq]

theorem cycle_agenda (s : State) : s.cycle.agenda = s.agenda := by rw [cycle_eq]

theorem cycle_ms (s : State) : s.cycle.ms = s.ms := by rw [cycle_eq]

theorem service_cfg (s : State) : s.service.cfg = s.cfg := by
  obtain ⟨-, -, -, -, -, -, h, -⟩ := service_frame s
  exact h

theorem service_agenda (s : State) : s.service.agenda = s.agenda := by
  obtain ⟨-, -, -, -, -, -, -, h, -⟩ := service_frame s
  exact h

theorem service_waiting (s : State) : s.service.waiting = s.waiting := by
  obtain ⟨-, h, -⟩ := service_frame s
  exact h

/-- R205: no interrupt is pending after a `Service`. -/
theorem service_irq (s : State) : s.service.irq = false := by simp [State.irq, service_flag]

/-- R130, R203: a `Service` ticks the clock once or not at all. -/
theorem service_ms (s : State) : s.service.ms = s.ms ∨ s.service.ms.toNat = (s.ms.toNat + 1) % 2 ^ 64 := by
  have tick : (trunc 64 ((s.ms.toNat : Int) + 1)).toNat = (s.ms.toNat + 1) % 2 ^ 64 := by
    have := trunc_toNat 64 ((s.ms.toNat : Int) + 1)
    omega
  rcases service_cases s with ⟨-, h⟩ | ⟨-, h⟩ | ⟨-, x, l, h, -⟩ | ⟨-, -, h⟩ | ⟨-, -, h⟩ <;> rw [h]
  · exact .inl rfl
  · exact .inr tick
  · exact .inr tick
  · exact .inl rfl
  · exact .inl rfl

@[simp] theorem noReset_nil : noReset [] := List.not_mem_nil

@[simp] theorem noReset_cons {k : StepKind} : noReset (k :: ks) ↔ k ≠ .reset ∧ noReset ks := by
  simp [noReset, eq_comm]

theorem cycles_cons (k : StepKind) (ks : List StepKind) : cycles (k :: ks) = cycles [k] + cycles ks :=
  List.count_append (l₁ := [k])

@[simp] theorem cycles_cycle : cycles [.cycle] = 1 := rfl

theorem cycles_eq_zero (h : k ≠ .cycle) : cycles [k] = 0 := by simp [cycles, h]

theorem services_cons (k : StepKind) (ks : List StepKind) : services (k :: ks) = services [k] + services ks :=
  List.count_append (l₁ := [k])

@[simp] theorem services_service : services [.service] = 1 := rfl

theorem services_eq_zero (h : k ≠ .service) : services [k] = 0 := by simp [services, h]

/-- R71: the operand of a decoded command is in the range of its format. -/
theorem decode_wellFormed {w : Word40} {i : Instr} (h : decode w = .ok i) : i.wellFormed = true := by
  have hu : operandU (argOf w).toNat = true := decide_eq_true (argOf w).isLt
  have hs : operandS (argOf w).toInt = true := by
    have hlo := BitVec.le_toInt (argOf w)
    have hhi := BitVec.toInt_lt (x := argOf w)
    simp only [operandS, Bool.and_eq_true, decide_eq_true_eq]
    exact ⟨hlo, hhi⟩
  unfold decode at h
  split at h <;> cases h
  all_goals simp only [Instr.wellFormed, hu, hs]

end Sys2Proof.Machine

/-! SUPPORT. The block does not read its environment: a step commutes with a change of the agenda, the draws and
the polling, which R11 does not give the block. -/

namespace Sys2Proof.Machine

/-- The block of `s` with another agenda, count of draws and polling. -/
def State.withEnv (s : State) (a : List Move) (d : Nat) (p : Option Nat) : State :=
  { s with agenda := a, draws := d, poll := p }

/-- What a step of the kind `k` leaves of the polling: `Reset` and `WaitDone` end it (R135, R230). -/
def StepKind.pollAfter : StepKind → Option Nat → Option Nat
  | .reset, _ => none
  | .waitDone, _ => none
  | .cycle, p => p
  | .service, p => p
  | .cmd _, p => p

variable {s t u : State} {k : StepKind} {a : List Move} {d : Nat} {p : Option Nat}

theorem sameBlock_withEnv (s : State) (a : List Move) (d : Nat) (p : Option Nat) : s.sameBlock (s.withEnv a d p) := rfl

theorem sameBlock_refl (s : State) : s.sameBlock s := rfl

theorem sameBlock_iff_withEnv : s.sameBlock u ↔ ∃ a d p, u = s.withEnv a d p :=
  ⟨fun h => ⟨_, _, _, h⟩, fun ⟨a, d, p, h⟩ => h ▸ sameBlock_withEnv s a d p⟩

theorem cycle_withEnv : (s.withEnv a d p).cycle = s.cycle.withEnv a d p := by
  rw [cycle_eq, cycle_eq]; rfl

theorem execTick_disabled (h : s.xperiod = 0) : s.execTick = { s with xcount := 0 } := if_pos h

theorem execTick_emits (h : s.xperiod ≠ 0) (hx : s.xcount + 1 = s.xperiod) :
    s.execTick = { s with xcount := 0, trace := .event .execCb :: s.trace } :=
  (if_neg h).trans (if_pos hx)

theorem execTick_counts (h : s.xperiod ≠ 0) (hx : s.xcount + 1 ≠ s.xperiod) :
    s.execTick = { s with xcount := s.xcount + 1 } :=
  (if_neg h).trans (if_neg hx)

theorem execTick_withEnv : (s.withEnv a d p).execTick = s.execTick.withEnv a d p := by
  rcases execTick_cases s with ⟨h, e⟩ | ⟨h, hx, e⟩ | ⟨h, hx, e⟩ <;> rw [e]
  · exact execTick_disabled (s := s.withEnv a d p) h
  · exact execTick_emits (s := s.withEnv a d p) h hx
  · exact execTick_counts (s := s.withEnv a d p) h hx

theorem servoPhase_withEnv : (s.withEnv a d p).servoPhase = s.servoPhase.withEnv a d p := by
  unfold State.servoPhase
  cases h : s.phase <;> simp only [State.withEnv, h] <;> rfl

theorem service_withEnv : (s.withEnv a d p).service = s.service.withEnv a d p := by
  cases h : s.cfg.sink with
  | none => rw [service_none h, service_none (s := s.withEnv a d p) h]; rfl
  | msClock => rw [service_msClock h, service_msClock (s := s.withEnv a d p) h]; rfl
  | timedExec =>
    rw [service_timedExec h, service_timedExec (s := s.withEnv a d p) h]
    exact execTick_withEnv (s := s.clearFlag.msTick)
  | servo =>
    rw [service_servo h, service_servo (s := s.withEnv a d p) h]
    exact servoPhase_withEnv (s := s.clearFlag)

theorem effect_withEnv (i : Instr) : effect (s.withEnv a d p) i = (effect s i).withEnv a d p := by
  cases i <;> rfl

theorem exec_withEnv {i : Instr} (h : exec i s = .next t) : exec i (s.withEnv a d p) = .next (t.withEnv a d p) := by
  rw [exec_eq] at h ⊢
  obtain rfl := Host.Outcome.next.inj h
  refine congrArg Host.Outcome.next ?_
  cases hav : availableUnder s.cfg.sink i with
  | true => exact (if_pos hav).trans (effect_withEnv i)
  | false => exact if_neg (Bool.eq_false_iff.mp hav)

theorem runWord_withEnv {w : Word40} (h : runWord w s = .next t) :
    runWord w (s.withEnv a d p) = .next (t.withEnv a d p) := by
  unfold runWord at h ⊢
  cases hd : decode w with
  | ok i => rw [hd] at h; exact exec_withEnv h
  | error e => rw [hd] at h; obtain rfl := Host.Outcome.next.inj h; rfl

/-- A step in another environment is the step, and it leaves that environment but for the polling it ends. -/
theorem take_withEnv (h : take k s = .next t) :
    take k (s.withEnv a d p) = .next (t.withEnv a d (k.pollAfter p)) := by
  cases k with
  | reset => obtain rfl := Host.Outcome.next.inj h; rfl
  | service => obtain rfl := Host.Outcome.next.inj h; exact congrArg _ (service_withEnv (s := s.mark .service))
  | cycle => obtain rfl := Host.Outcome.next.inj h; exact congrArg _ (cycle_withEnv (s := s.mark .cycle))
  | waitDone => obtain rfl := Host.Outcome.next.inj h; rfl
  | cmd w => exact runWord_withEnv (s := s.mark (.cmd w)) h

/-- What a step does to the environment it is taken in. -/
theorem take_eq_withEnv (h : take k s = .next t) : t = t.withEnv s.agenda s.draws (k.pollAfter s.poll) :=
  Host.Outcome.next.inj (h.symm.trans (take_withEnv (a := s.agenda) (d := s.draws) (p := s.poll) h))

theorem take_agenda (h : take k s = .next t) : t.agenda = s.agenda := by rw [take_eq_withEnv h]; rfl

/-- A step does not read the agenda once it is scheduled. -/
theorem take_with_agenda (h : take k s = .next t) :
    take k { s with agenda := a } = .next { t with agenda := a } := by
  refine (take_withEnv (a := a) (d := s.draws) (p := s.poll) h).trans (congrArg _ ?_)
  rw [take_eq_withEnv h]; rfl

/-- R11: scheduling changes the environment alone. -/
theorem schedule_withEnv (s : State) : ∃ a d p, s.schedule = (s.nextKind, s.withEnv a d p) := by
  suffices ∃ u, s.sameBlock u ∧ s.schedule = (s.nextKind, u) by
    obtain ⟨u, hu, hs⟩ := this
    obtain ⟨a, d, p, rfl⟩ := sameBlock_iff_withEnv.mp hu
    exact ⟨a, d, p, hs⟩
  rcases schedule_cases s with ⟨r, -, h⟩ | ⟨-, -, h⟩ | ⟨-, u, hu, h⟩ | ⟨-, -, u, hu, h⟩ | ⟨-, -, w, r, -, h⟩
  · exact ⟨{ s with agenda := r }, rfl, by rw [h, nextKind_of_schedule h]⟩
  · exact ⟨s, sameBlock_refl s, by rw [h, nextKind_of_schedule h]⟩
  · exact ⟨u, hu, by rw [h, nextKind_of_schedule h]⟩
  · exact ⟨u, hu, by rw [h, nextKind_of_schedule h]⟩
  · exact ⟨{ s with agenda := r }, rfl, by rw [h, nextKind_of_schedule h]⟩

/-- A step of the model is the step of its kind, whatever the environment. -/
theorem take_of_step (h : step s = .next t) : ∃ a d p, take s.nextKind s = .next (t.withEnv a d p) := by
  obtain ⟨a, d, p, hs⟩ := schedule_withEnv s
  rw [step_of_schedule hs] at h
  exact ⟨_, _, _, take_withEnv (s := s.withEnv a d p) (a := s.agenda) (d := s.draws) (p := s.poll) h⟩

theorem exec_total (i : Instr) (s : State) : ∃ t, exec i s = .next t := ⟨_, exec_eq i s⟩

theorem take_total (k : StepKind) (s : State) : ∃ t, take k s = .next t := by
  cases k with
  | reset | service | cycle | waitDone => exact ⟨_, rfl⟩
  | cmd w =>
    rcases runWord_cases w (s.mark (.cmd w)) with ⟨i, -, h⟩ | ⟨e, -, h⟩
    · obtain ⟨t, ht⟩ := exec_total i (s.mark (.cmd w))
      exact ⟨t, h.trans ht⟩
    · exact ⟨_, h⟩

theorem step_total (s : State) : ∃ t, step s = .next t := take_total s.schedule.1 s.schedule.2

/-- R11 (b): an idle block cycles or takes an enabled `WaitDone`, and makes no move of the agenda. -/
theorem step_idle (h : s.schedule = s.idle) :
    (s.nextKind = .cycle ∨ s.nextKind = .waitDone ∧ s.waitOver = true) ∧
      ∃ t, step s = .next t ∧ t.agenda = s.agenda := by
  rcases idle_cases s with ⟨hw, -, e⟩ | ⟨-, n, -, e⟩ | ⟨-, e⟩
  · have e := h.trans e
    exact ⟨.inr ⟨nextKind_of_schedule e, hw⟩, _, step_of_schedule e, rfl⟩
  · have e := h.trans e
    obtain ⟨t, ht⟩ := take_total .cycle { s with draws := s.drawn, poll := some n }
    exact ⟨.inl (nextKind_of_schedule e), t, (step_of_schedule e).trans ht,
      take_agenda (s := { s with draws := s.drawn, poll := some n }) ht⟩
  · have e := h.trans e
    obtain ⟨t, ht⟩ := take_total .cycle s
    exact ⟨.inl (nextKind_of_schedule e), t, (step_of_schedule e).trans ht, take_agenda ht⟩

end Sys2Proof.Machine

/-! O10. The runs of the block and the runs of R11 simulate each other: from left to right the environment is
forgotten, from right to left the agenda is made of the run. -/

namespace Sys2Proof.Machine

variable {s t u : State} {k : StepKind} {ks : List StepKind} {a : List Move}

/-- R11: the step the model takes is one of those enabled. -/
theorem enabled_nextKind (s : State) : Enabled s s.nextKind := by
  rcases schedule_cases s with ⟨r, -, h⟩ | ⟨-, hi, h⟩ | ⟨hi, u, -, h⟩ | ⟨hi, hw, u, -, h⟩ | ⟨hi, hw, w, r, -, h⟩ <;>
    rw [nextKind_of_schedule h]
  · trivial
  · exact hi
  · exact hi
  · exact ⟨hi, waitOver_iff.mp hw⟩
  · exact ⟨hi, hw⟩

theorem enabled_withEnv {d : Nat} {p : Option Nat} (h : Enabled s k) : Enabled (s.withEnv a d p) k := by
  cases k <;> exact h

/-- A run R11 allows is one in every environment. -/
theorem Allowed.withEnv (h : Allowed s ks t) (a : List Move) (d : Nat) (p : Option Nat) :
    ∃ p', Allowed (s.withEnv a d p) ks (t.withEnv a d p') := by
  induction h generalizing p with
  | done s => exact ⟨p, .done _⟩
  | cons he ht _ ih =>
    obtain ⟨p', h'⟩ := ih _
    exact ⟨p', .cons (enabled_withEnv he) (take_withEnv ht) h'⟩

/-- R9, R11: a run of the block is one that R11 allows, but for the environment. -/
theorem Path.allowed (h : Path s ks t) : ∃ u, Allowed s ks u ∧ u.sameBlock t := by
  induction h with
  | done s => exact ⟨s, .done s, rfl⟩
  | @cons s _ _ _ hs _ ih =>
    obtain ⟨v, hv, hvt⟩ := ih
    obtain ⟨a, d, p, ht⟩ := take_of_step hs
    obtain ⟨p', hv'⟩ := hv.withEnv a d p
    exact ⟨_, .cons (enabled_nextKind s) ht hv', hvt⟩

/-- The agenda starts with a `Reset` at once. -/
def resetsAtOnce : List Move → Bool
  | .resetAtOnce :: _ => true
  | _ => false

theorem ne_resetAtOnce_of_not_resetsAtOnce {l : List Move} (h : resetsAtOnce l = false) (rest : List Move) :
    l ≠ .resetAtOnce :: rest := by
  rintro rfl
  simp [resetsAtOnce] at h

/-- R11: an enabled step is made if the agenda is chosen for it: a move for every kind but `Service`, which takes
none, and the `Reset` at once only where a `Service` is pending. -/
theorem exists_agenda_for_step (he : Enabled s k) (ha : k = .service → resetsAtOnce a = false) :
    ∃ b, (s.irq = false → resetsAtOnce b = false) ∧
      ({ s with agenda := b } : State).schedule = (k, { s with agenda := a }) := by
  cases k with
  | reset =>
    cases hi : s.irq with
    | true => exact ⟨.resetAtOnce :: a, by simp, schedule_resetAtOnce_head rfl⟩
    | false => exact ⟨.reset :: a, fun _ => rfl, schedule_reset_head rfl hi⟩
  | service =>
    have ha := ha rfl
    exact ⟨a, fun _ => ha, schedule_service (s := { s with agenda := a }) he (ne_resetAtOnce_of_not_resetsAtOnce ha)⟩
  | cycle => exact ⟨.cycle :: a, fun _ => rfl, schedule_cycle_head rfl he⟩
  | cmd w => exact ⟨.cmd w :: a, fun _ => rfl, schedule_cmd_head rfl he.1 he.2⟩
  | waitDone => exact ⟨.waitDone :: a, fun _ => rfl, schedule_waitDone_head rfl he.1 (waitOver_iff.mpr he.2)⟩

/-- R9, R11: a run that R11 allows is a run of the block under an agenda made of it. Where no `Service` is
pending the agenda needs no `Reset` at once, so that a `Service` can be put before it. -/
theorem Allowed.path (h : Allowed s ks t) :
    ∃ moves, (s.irq = false → resetsAtOnce moves = false) ∧
      Path { s with agenda := moves } ks { t with agenda := [] } := by
  induction h with
  | done s => exact ⟨[], fun _ => rfl, .done _⟩
  | @cons s u t k ks he ht _ ih =>
    obtain ⟨a, ha, hp⟩ := ih
    have hservice : k = .service → resetsAtOnce a = false := by
      rintro rfl
      obtain rfl := Host.Outcome.next.inj ht
      exact ha (service_irq _)
    obtain ⟨b, hb, hs⟩ := exists_agenda_for_step he hservice
    have hstep : step { s with agenda := b } = .next { u with agenda := a } :=
      (step_of_schedule hs).trans (take_with_agenda ht)
    have hpath := Path.cons hstep hp
    rw [nextKind_of_schedule hs] at hpath
    exact ⟨b, hb, hpath⟩

/-- Settles O10: the two simulations, and the equation of `schedule` for each head of the agenda. -/
theorem enabledMovesAreMadeAndOthersHeld : Obligations.EnabledMovesAreMadeAndOthersHeld := by
  refine ⟨enabled_nextKind, fun _ _ _ h => h.allowed, fun s t ks h => ?_, fun s hi => ?_⟩
  · obtain ⟨moves, -, hp⟩ := h.path
    exact ⟨moves, hp⟩
  · have hi : s.irq = false := hi
    have he := enabled_nextKind s
    refine ⟨fun hk => ?_, fun r ha => nextKind_of_schedule (schedule_resetAtOnce_head ha),
      fun r ha => nextKind_of_schedule (schedule_reset_head ha hi),
      fun r ha => nextKind_of_schedule (schedule_cycle_head ha hi),
      fun w r ha hw => nextKind_of_schedule (schedule_cmd_head ha hi hw),
      fun r ha hw hd => nextKind_of_schedule (schedule_waitDone_head ha hi (waitOver_iff.mpr ⟨hw, hd⟩)),
      fun w r ha hw => ?_, fun r ha hn => ?_, fun w hk => ?_, fun hk => ?_⟩
    · rw [hk] at he
      exact absurd (he.symm.trans hi) (by decide)
    · obtain ⟨hk, ht⟩ := step_idle (schedule_cmd_held ha hi hw)
      exact ⟨hk.imp_right And.left, ht⟩
    · have hw : s.waitOver = false := Bool.eq_false_iff.mpr fun h => hn (waitOver_iff.mp h)
      obtain ⟨hk | ⟨-, h⟩, ht⟩ := step_idle (schedule_waitDone_held ha hi hw)
      · exact ⟨hk, ht⟩
      · simp [hw] at h
    · rw [hk] at he; exact he.2
    · rw [hk] at he; exact he.2

end Sys2Proof.Machine

/-! O46, O47. A wait on a stopped timer (R14, R247): with no flag pending it hangs, with one pending it may not. -/

namespace Sys2Proof.Machine

variable {s t u : State} {ks : List StepKind}

/-- `t` is `s` but for what the spec does not give the block, the trace included. -/
def State.sameFields (s t : State) : Prop :=
  t = { s with agenda := t.agenda, draws := t.draws, poll := t.poll, trace := t.trace }

theorem State.sameFields_trans (h : s.sameFields t) (h' : t.sameFields u) : s.sameFields u := by
  unfold State.sameFields at *
  rw [h', h]

/-- R100: a `Cycle` of a stopped timer changes no field. -/
theorem sameFields_of_cycle_stopped (hu : s.sameBlock u) (hr : s.run = false) :
    s.sameFields (u.mark .cycle).cycle := by
  obtain ⟨a, d, p, rfl⟩ := sameBlock_iff_withEnv.mp hu
  rw [cycle_stopped (s := (s.withEnv a d p).mark .cycle) hr]
  rfl

/-- R14: a wait whose deadline is ahead, the timer stopped and no flag pending. -/
structure Hangs (s : State) : Prop where
  waiting : s.waiting = true
  stopped : s.run = false
  noFlag : s.flag = false
  ahead : s.ms.toNat < s.deadline.toNat

theorem Hangs.of_sameFields (h : Hangs s) (hst : s.sameFields t) : Hangs t := by
  unfold State.sameFields at hst
  rw [hst]
  exact ⟨h.waiting, h.stopped, h.noFlag, h.ahead⟩

/-- R14: the only step of a hanging wait but `Reset` is a `Cycle` that changes no field. -/
theorem Hangs.step (h : Hangs s) (hs : step s = .next t) (hr : s.nextKind ≠ .reset) :
    s.nextKind = .cycle ∧ s.sameFields t := by
  rcases step_effect hs with ⟨hk, -⟩ | ⟨hi, -⟩ | ⟨-, hk, u, hu, rfl⟩ | ⟨-, hw, -⟩ | ⟨-, hw, -⟩
  · exact absurd hk hr
  · exact absurd (irq_iff.mp hi).1 (by simp [h.noFlag])
  · exact ⟨hk, sameFields_of_cycle_stopped hu h.stopped⟩
  · exact absurd (waitOver_iff.mp hw).2 (by have := h.ahead; omega)
  · exact absurd h.waiting (by simp [hw])

theorem Hangs.path (h : Hangs s) (hp : Path s ks t) (hr : noReset ks) :
    (∀ k ∈ ks, k = .cycle) ∧ s.sameFields t := by
  induction hp with
  | done s => exact ⟨by simp, rfl⟩
  | cons hs _ ih =>
    obtain ⟨hr1, hr2⟩ := noReset_cons.mp hr
    obtain ⟨hk, hf⟩ := h.step hs hr1
    obtain ⟨hks, hf'⟩ := ih (h.of_sameFields hf) hr2
    exact ⟨List.forall_mem_cons.mpr ⟨hk, hks⟩, State.sameFields_trans hf hf'⟩

/-- Settles O46: every step of the run keeps `Hangs` and is a `Cycle` that changes no field. -/
theorem aWaitOnAStoppedTimerHangs : Obligations.AWaitOnAStoppedTimerHangs :=
  fun _ _ _ hw hr hf hms hp hn => Hangs.path ⟨hw, hr, hf, hms⟩ hp hn

/-- The moves of a host that starts a timer of period 1 with the interrupt off, lets it expire, stops it, and then
waits one millisecond: `TMR.START`, a `Cycle`, `TMR.STOP`, `MSC.WAIT 1` and its `WaitDone`. -/
def lateTickMoves : List Move := [.cmd 0x0000000000, .cycle, .cmd 0x0100000000, .cmd 0x1200000001, .waitDone]

/-- The state all but the last of those moves leave, with the tick still pending. -/
def lateTick : State :=
  { State.resetWith (Config.ex2 .msClock) with
    ie := true, flag := true, clksrc := true, waiting := true, deadline := 1, agenda := [.waitDone]
    trace := [.step (.cmd 0x1200000001), .response ⟨.ok, 0⟩, .step (.cmd 0x0100000000), .step .cycle,
      .response ⟨.ok, 0⟩, .step (.cmd 0x0000000000)] }

theorem reachable_lateTick : Reachable lateTick :=
  ⟨Config.ex2 .msClock, lateTickMoves, 0, _, .cons rfl (.cons rfl (.cons rfl (.cons rfl (.done _))))⟩

/-- R133, R203: the pending tick is serviced and brings `MS` to the deadline, so the wait ends. -/
theorem lateTick_waitDone : ∃ t, Path lateTick [.service, .waitDone] t := ⟨_, .cons rfl (.cons rfl (.done _))⟩

/-- Refutes O47: a tick pending from before the `MSC.WAIT` is serviced next and brings `MS` to the deadline. -/
theorem not_stoppedWaitNeverCompletesAsWritten : ¬ Obligations.StoppedWaitNeverCompletesAsWritten := by
  intro h
  obtain ⟨t, ht⟩ := lateTick_waitDone
  exact h lateTick t _ reachable_lateTick rfl rfl (by decide) ht (by simp) (by simp)

end Sys2Proof.Machine

/-! O6, O9, O36. One step: the command of a word, the forced `Service`, and the configuration. -/

namespace Sys2Proof.Machine

variable {s t : State}

/-- Settles O6: the word at the head is scheduled and decoded. -/
theorem stepRunsTheDecodedCommand : Obligations.StepRunsTheDecodedCommand := by
  intro s w rest i ha hi hw hd
  have hrun : ∀ u, runWord w u = exec i u := fun u => by simp [runWord, hd]
  exact (step_of_schedule (schedule_cmd_head ha hi hw)).trans (hrun _)

/-- R11 (a): a forced `Service` is the step. -/
theorem step_service (hi : s.irq = true) (ha : ∀ rest, s.agenda ≠ .resetAtOnce :: rest) :
    s.nextKind = .service ∧ step s = .next (s.mark .service).service :=
  ⟨nextKind_of_schedule (schedule_service hi ha), step_of_schedule (schedule_service hi ha)⟩

/-- Settles O9: `Service` is scheduled unless a `Reset` at once is next, and leaves no interrupt pending. -/
theorem serviceIsForcedWhileIrqHolds : Obligations.ServiceIsForcedWhileIrqHolds := by
  intro s hf hie
  refine ⟨fun r ha => nextKind_of_schedule (schedule_resetAtOnce_head ha), fun ha => ?_⟩
  obtain ⟨hk, hs⟩ := step_service (irq_iff.mpr ⟨hf, hie⟩) ha
  have hagenda : (s.mark .service).service.agenda = s.agenda := service_agenda _
  exact ⟨hk, _, hs, service_flag _, hagenda, fun r hr =>
    nextKind_of_schedule (schedule_reset_head (hagenda.trans hr) (service_irq _))⟩

/-- R6, R37, R230: a step keeps the configuration. -/
theorem step_cfg (h : step s = .next t) : t.cfg = s.cfg := by
  rcases step_effect h with ⟨-, ht⟩ | ⟨-, -, rfl⟩ | ⟨-, -, u, hu, rfl⟩ | ⟨-, -, -, u, hu, rfl⟩ |
    ⟨-, -, w, u, hu, -, ⟨i, -, -, rfl⟩ | ⟨st, rfl⟩⟩
  · rw [ht]; rfl
  · exact service_cfg _
  · exact (cycle_cfg _).trans (State.sameBlock_fields hu).1
  · exact (State.sameBlock_fields hu).1
  · exact (effect_frame i _).1.trans (State.sameBlock_fields hu).1
  · exact (State.sameBlock_fields hu).1

/-- Settles O36, by the kinds of step. -/
theorem noStepChangesTheConfiguration : Obligations.NoStepChangesTheConfiguration := fun _ _ => step_cfg

end Sys2Proof.Machine

/-! O11. The block never halts: between one `Cycle` and the next there are only so many other steps. -/

namespace Sys2Proof.Machine

variable {s t : State} {ks : List StepKind}

/-- A bound on the steps before the next `Cycle`. A move of the agenda may be a command that enables a pending
interrupt and begins a wait, so it pays for itself, the `Service` and the `WaitDone`. -/
def State.stepsToCycle (s : State) : Nat := 3 * s.agenda.length + s.irq.toNat + s.waiting.toNat

theorem stepsToCycle_lt_of_reset {rest : List Move} {m : Move} (ha : s.agenda = m :: rest) :
    ({ s with agenda := rest } : State).resetBlock.stepsToCycle < s.stepsToCycle := by
  simp [State.stepsToCycle, State.irq, ha]
  omega

theorem stepsToCycle_lt_of_service (hi : s.irq = true) :
    (s.mark .service).service.stepsToCycle < s.stepsToCycle := by
  simp [State.stepsToCycle, service_irq, service_agenda, service_waiting, hi]

theorem stepsToCycle_lt_of_waitDone {a : List Move} {d : Nat} (hw : s.waiting = true)
    (ha : a.length ≤ s.agenda.length) :
    ((({ s with agenda := a, draws := d } : State).mark .waitDone).waitDone).stepsToCycle < s.stepsToCycle := by
  simp [State.stepsToCycle, State.irq, hw]
  omega

theorem stepsToCycle_lt_of_cmd {rest : List Move} {m : Move} (ha : s.agenda = m :: rest) (ht : t.agenda = rest) :
    t.stepsToCycle < s.stepsToCycle := by
  have := t.irq.toNat_le
  have := t.waiting.toNat_le
  simp only [State.stepsToCycle, ha, ht, List.length_cons]
  omega

/-- R11: `WaitDone` takes a move off the agenda or none. -/
theorem step_waitDone (hk : s.nextKind = .waitDone) : ∃ a d, a.length ≤ s.agenda.length ∧
    step s = .next (({ s with agenda := a, draws := d } : State).mark .waitDone).waitDone := by
  obtain ⟨-, -, a, d, hs, hmade, hheld⟩ := schedule_waitDone hk
  refine ⟨a, d, ?_, step_of_schedule hs⟩
  by_cases hhead : ∃ rest, s.agenda = .waitDone :: rest
  · obtain ⟨rest, ha⟩ := hhead
    rw [(hmade rest ha).1, ha]
    exact Nat.le_succ _
  · rw [hheld (not_exists.mp hhead)]

/-- R12: every step but a `Cycle` uses up some of the bound. -/
theorem stepsToCycle_lt (h : step s = .next t) (hk : s.nextKind ≠ .cycle) : t.stepsToCycle < s.stepsToCycle := by
  rcases step_cases h with ⟨rest, ha | ⟨ha, -⟩, -, rfl⟩ | ⟨-, hi, -, rfl⟩ | ⟨-, hc, -⟩ | ⟨-, hw, hd, -⟩ |
    ⟨-, -, w, rest, ha, -, hr⟩
  · exact stepsToCycle_lt_of_reset ha
  · exact stepsToCycle_lt_of_reset ha
  · exact stepsToCycle_lt_of_service hi
  · exact absurd hc hk
  · obtain ⟨a, d, hlen, hs⟩ := step_waitDone hd
    obtain rfl := Host.Outcome.next.inj (h.symm.trans hs)
    exact stepsToCycle_lt_of_waitDone (waitOver_iff.mp hw).1 hlen
  · exact stepsToCycle_lt_of_cmd ha (take_agenda (k := .cmd w) (s := { s with agenda := rest }) hr)

theorem Path.length_le_stepsToCycle (h : Path s ks t) (hk : .cycle ∉ ks) : ks.length ≤ s.stepsToCycle := by
  induction h with
  | done => exact Nat.zero_le _
  | cons hs _ ih =>
    rw [List.mem_cons, not_or] at hk
    obtain ⟨hk1, hk2⟩ := hk
    have hlt := stepsToCycle_lt hs (Ne.symm hk1)
    exact (Nat.succ_le_succ (ih hk2)).trans hlt

/-- Settles O11: a run longer than `stepsToCycle` has a `Cycle`. -/
theorem theBlockNeverHalts : Obligations.TheBlockNeverHalts := by
  refine ⟨step_total, exec_total, fun s => ⟨s.stepsToCycle + 1, fun ks t h hn => ?_⟩⟩
  by_contra hk
  have := h.length_le_stepsToCycle hk
  omega

end Sys2Proof.Machine

/-! O13. `WaitDone` (R135), and that an enabled one is taken at last (R12). -/

namespace Sys2Proof.Machine

variable {s t u : State} {k : StepKind} {ks : List StepKind}

/-- A bound on the `Cycle` steps before an enabled `WaitDone` is taken: the environment's moves and what is left
of the host's polling. -/
def State.cyclesToWaitDone (s : State) : Nat := s.agenda.length + s.patience

theorem cyclesToWaitDone_cycle (s : State) : s.cycle.cyclesToWaitDone = s.cyclesToWaitDone := by rw [cycle_eq]; rfl

theorem waitOver_cycle (s : State) : s.cycle.waitOver = s.waitOver := by rw [cycle_eq]; rfl

theorem cyclesToWaitDone_service (s : State) : s.service.cyclesToWaitDone = s.cyclesToWaitDone := by
  obtain ⟨-, -, -, -, -, -, -, ha, hd, hp⟩ := service_frame s
  simp only [State.cyclesToWaitDone, State.patience, ha, hd, hp]

/-- R12, R135: a `Cycle` while `WaitDone` is enabled uses up one of the bound: it is a move of the agenda, or the
polling lets it pass. -/
theorem step_cycle_of_waitOver (hk : s.nextKind = .cycle) (hw : s.waitOver = true) (h : step s = .next t) :
    t.waitOver = true ∧ t.ms = s.ms ∧ t.cyclesToWaitDone + 1 = s.cyclesToWaitDone := by
  obtain ⟨a, d, p, hs, hbound⟩ : ∃ a d p, s.schedule = (.cycle, s.withEnv a d p) ∧
      (s.withEnv a d p).cyclesToWaitDone + 1 = s.cyclesToWaitDone := by
    obtain ⟨hi, -⟩ := schedule_cycle hk
    by_cases hhead : ∃ rest, s.agenda = .cycle :: rest
    · obtain ⟨rest, ha⟩ := hhead
      refine ⟨rest, s.draws, s.poll, schedule_cycle_head ha hi, ?_⟩
      simp only [State.cyclesToWaitDone, ha, List.length_cons]
      exact Nat.add_right_comm _ _ _
    · have hidle := schedule_eq_idle_of_cycle hk (not_exists.mp hhead)
      rcases idle_cases s with ⟨-, -, e⟩ | ⟨-, n, hn, e⟩ | ⟨hn, -⟩
      · simp [nextKind_of_schedule (hidle.trans e)] at hk
      · refine ⟨s.agenda, s.drawn, some n, hidle.trans e, ?_⟩
        rw [State.cyclesToWaitDone, State.cyclesToWaitDone, hn]
        rfl
      · simp [hw] at hn
  obtain rfl := Host.Outcome.next.inj (h.symm.trans (step_of_schedule hs))
  refine ⟨(waitOver_cycle _).trans hw, cycle_ms _, ?_⟩
  rw [cyclesToWaitDone_cycle]
  exact hbound

/-- R135: a `Service` that does not wrap the clock leaves an enabled `WaitDone` enabled, and the bound as it is. -/
theorem service_of_waitOver (hw : s.waitOver = true) (hms : s.ms.toNat + 1 < 2 ^ 64) :
    s.service.waitOver = true ∧ s.service.ms.toNat ≤ s.ms.toNat + 1 ∧
      s.service.cyclesToWaitDone = s.cyclesToWaitDone := by
  obtain ⟨-, hwait, hdl, -⟩ := service_frame s
  obtain ⟨hw1, hw2⟩ := waitOver_iff.mp hw
  have hle : s.ms.toNat ≤ s.service.ms.toNat ∧ s.service.ms.toNat ≤ s.ms.toNat + 1 := by
    rcases service_ms s with h | h
    · rw [h]; omega
    · omega
  refine ⟨waitOver_iff.mpr ⟨hwait.trans hw1, ?_⟩, hle.2, cyclesToWaitDone_service s⟩
  rw [hdl]
  exact hw2.trans hle.1

/-- R12, R135: a run in which an enabled `WaitDone` stays enabled and is not taken has at most so many `Cycle`
steps. -/
theorem Path.cycles_le_cyclesToWaitDone (h : Path s ks t) (hw : s.waitOver = true) (hr : noReset ks)
    (hd : .waitDone ∉ ks) (hms : s.ms.toNat + services ks < 2 ^ 64) : cycles ks ≤ s.cyclesToWaitDone := by
  induction h with
  | done => exact Nat.zero_le _
  | @cons s u _ ks hs _ ih =>
    obtain ⟨hr1, hr2⟩ := noReset_cons.mp hr
    rw [List.mem_cons, not_or] at hd
    obtain ⟨hd1, hd2⟩ := hd
    rw [services_cons] at hms
    rw [cycles_cons]
    rcases step_cases hs with ⟨_, -, hk, -⟩ | ⟨-, -, hk, hu⟩ | ⟨-, hk, -⟩ | ⟨-, -, hk, -⟩ | ⟨-, hw', -⟩
    · exact absurd hk hr1
    · rw [hk, services_service] at hms
      obtain ⟨hw', hms', hbound⟩ := service_of_waitOver (s := s.mark .service) hw
        (by simp only [State.mark_ms]; omega)
      rw [← hu] at hw' hms' hbound
      have hle := ih hw' hr2 hd2 (by simp only [State.mark_ms] at hms'; omega)
      rw [hbound] at hle
      rw [hk, cycles_eq_zero (by simp), Nat.zero_add]
      exact hle
    · obtain ⟨hw', hms', hbound⟩ := step_cycle_of_waitOver hk hw hs
      have hle := ih hw' hr2 hd2 (by rw [hms']; omega)
      rw [hk, cycles_cycle]
      omega
    · exact absurd hk.symm hd1
    · exact absurd (waitOver_iff.mp hw).1 (by simp [hw'])

/-- Settles O13: the equation of a scheduled `WaitDone`, and the bound `cyclesToWaitDone`. -/
theorem waitDoneAnswersTheWait : Obligations.WaitDoneAnswersTheWait := by
  refine ⟨fun s rest ha hi hw hd => nextKind_of_schedule (schedule_waitDone_head ha hi (waitOver_iff.mpr ⟨hw, hd⟩)),
    fun s hk => ?_, fun s hw hd => ⟨s.cyclesToWaitDone + 1, fun ks t h hr hms hn => ?_⟩⟩
  · obtain ⟨hi, hover, a, d, hs, hmade, hheld⟩ := schedule_waitDone hk
    obtain ⟨hw, hd⟩ := waitOver_iff.mp hover
    exact ⟨hi, hw, hd, a, d, hmade, hheld, step_of_schedule hs⟩
  · by_contra hk
    have := h.cycles_le_cyclesToWaitDone (waitOver_iff.mpr ⟨hw, hd⟩) hr hk hms
    omega

end Sys2Proof.Machine

/-! O60. The directive `@cycle n` (R81): each `Cycle` is followed by the `Service` it enables. -/

namespace Sys2Proof.Machine

variable {s t : State} {k : StepKind} {ks : List StepKind}

/-- From `s` a run of `Cycle` and `Service` steps only, `n` of them `Cycle` and at most `m` of them `Service`, leads
to where no `Service` is pending and the agenda is `a`. -/
def RunsCycles (s : State) (n m : Nat) (a : List Move) : Prop :=
  ∃ ks t, Path s ks t ∧ (∀ k ∈ ks, k = .cycle ∨ k = .service) ∧ cycles ks = n ∧ services ks ≤ m ∧ t.irq = false ∧
    t.agenda = a

/-- One such run after another. -/
theorem RunsCycles.trans {n m n' m' : Nat} {a b : List Move} (h : RunsCycles s n m a)
    (h' : ∀ u : State, u.irq = false → u.agenda = a → RunsCycles u n' m' b) : RunsCycles s (n + n') (m + m') b := by
  obtain ⟨ks, u, hp, hk, hc, hs, hi, ha⟩ := h
  obtain ⟨ks', t, hp', hk', hc', hs', ht⟩ := h' u hi ha
  refine ⟨ks ++ ks', t, hp.append hp', List.forall_mem_append.mpr ⟨hk, hk'⟩, ?_, ?_, ht⟩
  · rw [← hc, ← hc']; exact List.count_append
  · exact List.count_append.trans_le (Nat.add_le_add hs hs')

/-- A script has no `Reset` at once: a `@reset` comes after the `Service` (R81). -/
theorem moves_not_resetsAtOnce (script : List Directive) :
    resetsAtOnce (script.flatMap Directive.moves) = false := by
  induction script with
  | nil => rfl
  | cons d ds ih =>
    cases d with
    | reset | command w => rfl
    | sink | configEx1 | configEx2 | expect => exact ih
    | cycle n =>
      cases n with
      | zero => exact ih
      | succ n => rfl

/-- R11 (a): the pending `Service`, if there is one, is taken. -/
theorem runsCycles_pending (ha : resetsAtOnce s.agenda = false) :
    RunsCycles s 0 (if s.irq = true then 1 else 0) s.agenda := by
  cases hi : s.irq with
  | false => exact ⟨[], s, .done s, by simp, rfl, Nat.zero_le _, hi, rfl⟩
  | true =>
    obtain ⟨hk, hs⟩ := step_service hi (ne_resetAtOnce_of_not_resetsAtOnce ha)
    exact ⟨_, _, .cons hs (.done _), by simp [hk], by simp [hk, cycles], by simp [hk], service_irq _,
      service_agenda _⟩

/-- R11: a `Cycle` of the agenda, and the `Service` it enables. -/
theorem runsCycles_one {a : List Move} (hi : s.irq = false) (ha : s.agenda = .cycle :: a)
    (hr : resetsAtOnce a = false) : RunsCycles s 1 1 a := by
  have hs := schedule_cycle_head ha hi
  have hstep := Path.cons (step_of_schedule hs) (.done _)
  rw [nextKind_of_schedule hs] at hstep
  have hagenda : (({ s with agenda := a } : State).mark .cycle).cycle.agenda = a := cycle_agenda _
  obtain ⟨ks, t, hp, hk, hc, hm, ht, hta⟩ := runsCycles_pending (hagenda.symm ▸ hr)
  refine ⟨.cycle :: ks, t, hstep.append hp, List.forall_mem_cons.mpr ⟨.inl rfl, hk⟩, ?_, ?_, ht, hta.trans hagenda⟩
  · rw [cycles_cons, hc, cycles_cycle]
  · rw [services_cons, services_eq_zero (by simp), Nat.zero_add]
    exact hm.trans (by split <;> decide)

theorem replicate_cycle_not_resetsAtOnce {a : List Move} (n : Nat) (ha : resetsAtOnce a = false) :
    resetsAtOnce (List.replicate n .cycle ++ a) = false := by
  cases n with
  | zero => exact ha
  | succ n => rfl

/-- R81: the moves of `@cycle n`, with no `Service` pending before. -/
theorem runsCycles_replicate {a : List Move} (ha : resetsAtOnce a = false) (n : Nat) :
    ∀ s : State, s.irq = false → s.agenda = List.replicate n .cycle ++ a → RunsCycles s n n a := by
  induction n with
  | zero => exact fun s hi hs => ⟨[], s, .done s, by simp, rfl, Nat.zero_le _, hi, hs⟩
  | succ n ih =>
    intro s hi hs
    rw [Nat.add_comm n 1]
    exact (runsCycles_one hi hs (replicate_cycle_not_resetsAtOnce n ha)).trans ih

/-- Settles O60: the `Service` pending before, then the `n` moves, each with the `Service` it enables. -/
theorem cycleDirectiveIsCyclesAndTheirServices : Obligations.CycleDirectiveIsCyclesAndTheirServices := by
  intro n s script ha
  have hpending := runsCycles_pending (s := s) (ha ▸ moves_not_resetsAtOnce _)
  have hrun := hpending.trans fun u hi hu =>
    runsCycles_replicate (moves_not_resetsAtOnce script) n u hi (hu.trans ha)
  rw [Nat.zero_add, Nat.add_comm] at hrun
  exact hrun

end Sys2Proof.Machine

/-! O54. The widths of the servo pulse (R7, R160, R166). -/

namespace Sys2Proof.Machine

variable {c : Config} {pos : S32}

theorem servoWellFormed_iff :
    c.servoWellFormed = true ↔ 1 ≤ c.minPulse ∧ c.maxPulse + 1 ≤ c.pwmPeriod ∧ c.pwmPeriod ≤ 2 ^ 24 := by
  simp [Config.servoWellFormed, and_assoc]

/-- R7 (b): the offset of an angle in range lies between 0 and that of the greatest angle. -/
theorem angle_offset_bounds (inc : Nat) (h0 : 0 ≤ pos.toInt) (h1 : pos.toInt ≤ 180) :
    0 ≤ pos.toInt * (inc : Int) ∧ pos.toInt * (inc : Int) ≤ 180 * (inc : Int) :=
  ⟨Int.mul_nonneg h0 (Int.natCast_nonneg _), Int.mul_le_mul_of_nonneg_right h1 (Int.natCast_nonneg _)⟩

/-- R166: the high width does not wrap. -/
theorem pulse_on_exact (hc : c.servoWellFormed = true) (h0 : 0 ≤ pos.toInt) (h1 : pos.toInt ≤ 180) :
    ((pulse c pos).1.toNat : Int) = (c.minPulse : Int) + pos.toInt * (c.oneDegreeIncrement : Int) ∧
      c.minPulse ≤ (pulse c pos).1.toNat ∧ (pulse c pos).1.toNat ≤ c.maxPulse := by
  obtain ⟨hmin, hmax, hper⟩ := servoWellFormed_iff.mp hc
  obtain ⟨hlo, hhi⟩ := angle_offset_bounds c.oneDegreeIncrement h0 h1
  have hon := pulse_on_toNat c pos
  unfold Config.maxPulse at hmax ⊢
  rw [Int.emod_eq_of_lt (by omega) (by omega)] at hon
  omega

/-- R166: the two widths make up the period. -/
theorem pulse_sum (hc : c.servoWellFormed = true) (h0 : 0 ≤ pos.toInt) (h1 : pos.toInt ≤ 180) :
    (pulse c pos).1.toNat + (pulse c pos).2.toNat = c.pwmPeriod := by
  obtain ⟨hmin, hmax, hper⟩ := servoWellFormed_iff.mp hc
  obtain ⟨-, hlo, hhi⟩ := pulse_on_exact hc h0 h1
  have hoff := pulse_off_toNat c pos
  rw [Int.emod_eq_of_lt (by omega) (by omega)] at hoff
  omega

/-- R166: both widths are periods the timer can hold. -/
theorem pulse_range (hc : c.servoWellFormed = true) (h0 : 0 ≤ pos.toInt) (h1 : pos.toInt ≤ 180) :
    (1 ≤ (pulse c pos).1.toNat ∧ (pulse c pos).1.toNat ≤ 2 ^ 24) ∧
      (1 ≤ (pulse c pos).2.toNat ∧ (pulse c pos).2.toNat ≤ 2 ^ 24) := by
  obtain ⟨hmin, hmax, hper⟩ := servoWellFormed_iff.mp hc
  obtain ⟨-, hlo, hhi⟩ := pulse_on_exact hc h0 h1
  have hsum := pulse_sum hc h0 h1
  omega

/-- R103, R112: the timer keeps a period in its range. -/
theorem periodOf_reloadFor {p : Nat} (h : 1 ≤ p ∧ p ≤ 2 ^ 24) : periodOf (reloadFor p) = p := by
  rw [periodOf, reloadFor_toNat_of_mem p h.1 h.2, Nat.sub_add_cancel h.1]

/-- Settles O54: the widths do not wrap, and each is a period the timer keeps. -/
theorem pulseWidthsAreInRange : Obligations.PulseWidthsAreInRange := by
  refine ⟨fun c pos hc h0 h1 => ?_, rfl, rfl⟩
  obtain ⟨hon, hlo, hhi⟩ := pulse_on_exact hc h0 h1
  obtain ⟨hr1, hr2⟩ := pulse_range hc h0 h1
  exact ⟨hon, hlo, hr1.1, hhi, hr2.1, pulse_sum hc h0 h1, periodOf_reloadFor hr1, periodOf_reloadFor hr2⟩

end Sys2Proof.Machine

/-! O55. The servo waveform (R167): the invariant `Waveform n` of a run from `SRV.INIT`, after `n` `Cycle` steps. -/

namespace Sys2Proof.Machine

variable {s t u : State} {n p m : Nat}

/-- R110, R111: `m` `Cycle` steps after a restart of the timer with the period `p`, none of them after an expiry. -/
structure Counting (p m : Nat) (s : State) : Prop where
  run : s.run = true
  reload : periodOf s.reload = p
  count : s.count.toNat = if m = 0 then 0 else p - m
  before : m ≤ p
  flag : s.flag = true ↔ m = p

theorem Counting.zero (hrun : s.run = true) (hcount : s.count = 0) (hflag : s.flag = false)
    (hreload : s.reload = reloadFor p) (hp : 1 ≤ p ∧ p ≤ 2 ^ 24) : Counting p 0 s where
  run := hrun
  reload := hreload ▸ periodOf_reloadFor hp
  count := by rw [hcount]; rfl
  before := Nat.zero_le _
  flag := iff_of_false (by simp [hflag]) (by omega)

theorem Counting.lt (h : Counting p m s) (hf : s.flag = false) : m < p := by
  refine lt_of_le_of_ne h.before fun he => ?_
  simp [h.flag.mpr he] at hf

/-- R100, R111: a `Cycle` counts one, and raises the flag at the end of the period. -/
theorem Counting.cycle (h : Counting p m s) (hf : s.flag = false) : Counting p (m + 1) s.cycle := by
  have hlt := h.lt hf
  have hreload : s.reload.toNat + 1 = p := h.reload
  have hcount := h.count
  have hnext : s.nextCount.toNat = p - (m + 1) := by
    rw [nextCount_toNat, hcount]
    split_ifs <;> omega
  rw [cycle_running h.run]
  refine ⟨h.run, h.reload, hnext, hlt, ?_⟩
  have hzero : s.nextCount = 0 ↔ s.nextCount.toNat = 0 := by simp [← BitVec.toNat_inj]
  simp only [hf, Bool.false_or, decide_eq_true_eq, hzero, hnext]
  omega

/-- `Counting` speaks of four fields. -/
theorem Counting.congr (h : Counting p m s) (hrun : t.run = s.run) (hreload : t.reload = s.reload)
    (hcount : t.count = s.count) (hflag : t.flag = s.flag) : Counting p m t where
  run := hrun.trans h.run
  reload := hreload ▸ h.reload
  count := hcount ▸ h.count
  before := h.before
  flag := hflag ▸ h.flag

/-- R167: where the waveform stands after `n` cycles: in the high pulse of some period, or in its low remainder. -/
inductive WaveformPosition (n : Nat) (s : State) : Prop where
  | high (q m : Nat) (hphase : s.phase = .lowPending) (hpin : s.pin = true) (hm : Counting s.onTime.toNat m s)
    (hn : n = s.cfg.pwmPeriod * q + m)
  | low (q m : Nat) (hphase : s.phase = .highPending) (hpin : s.pin = false) (hm : Counting s.offTime.toNat m s)
    (hn : n = s.cfg.pwmPeriod * q + s.onTime.toNat + m)

/-- R167: what every step of the run keeps. -/
structure Waveform (n : Nat) (s : State) : Prop where
  wellFormed : s.cfg.servoWellFormed = true
  sink : s.cfg.sink = .servo
  ie : s.ie = true
  newPosUpper : s.newPos.toInt ≤ 180
  curPosLower : 0 ≤ s.curPos.toInt
  curPosUpper : s.curPos.toInt ≤ 180
  onTime : s.onTime = (pulse s.cfg s.curPos).1
  offTime : s.offTime = (pulse s.cfg s.curPos).2
  position : WaveformPosition n s

/-- R160, R167: the widths of the latched angle. -/
theorem Waveform.widths (h : Waveform n s) :
    (s.onTime.toNat : Int) = (s.cfg.minPulse : Int) + s.curPos.toInt * (s.cfg.oneDegreeIncrement : Int) ∧
      s.onTime.toNat + s.offTime.toNat = s.cfg.pwmPeriod ∧
      (1 ≤ s.onTime.toNat ∧ s.onTime.toNat ≤ 2 ^ 24) ∧ (1 ≤ s.offTime.toNat ∧ s.offTime.toNat ≤ 2 ^ 24) := by
  rw [h.onTime, h.offTime]
  exact ⟨(pulse_on_exact h.wellFormed h.curPosLower h.curPosUpper).1,
    pulse_sum h.wellFormed h.curPosLower h.curPosUpper, pulse_range h.wellFormed h.curPosLower h.curPosUpper⟩

/-- R167: the commands a host may issue, `WaitDone` and the environment touch nothing the waveform is made of but
the pending angle. -/
structure WaveformFrame (s t : State) : Prop where
  others : t = { s with
    newPos := t.newPos, waiting := t.waiting, agenda := t.agenda, draws := t.draws, poll := t.poll, trace := t.trace }
  newPosUpper : s.newPos.toInt ≤ 180 → t.newPos.toInt ≤ 180

theorem Waveform.frame (h : Waveform n s) (hf : WaveformFrame s t) : Waveform n t := by
  obtain ⟨ht, hpos⟩ := hf
  have hnew := hpos h.newPosUpper
  have hposition : WaveformPosition n t := by
    rw [ht]
    cases h.position with
    | high q m hphase hpin hm hn => exact .high q m hphase hpin (hm.congr rfl rfl rfl rfl) hn
    | low q m hphase hpin hm hn => exact .low q m hphase hpin (hm.congr rfl rfl rfl rfl) hn
  rw [ht] at hposition hnew ⊢
  exact ⟨h.wellFormed, h.sink, h.ie, hnew, h.curPosLower, h.curPosUpper, h.onTime, h.offTime, hposition⟩

theorem WaveformFrame.trans (h : WaveformFrame s t) (h' : WaveformFrame t u) : WaveformFrame s u where
  others := by rw [h'.others, h.others]
  newPosUpper := h'.newPosUpper ∘ h.newPosUpper

theorem WaveformFrame.of_sameBlock (h : s.sameBlock u) (k : StepKind) : WaveformFrame s (u.mark k) := by
  obtain ⟨a, d, p, rfl⟩ := sameBlock_iff_withEnv.mp h
  exact ⟨rfl, id⟩

/-- R162, R163: a stored angle is at most 180. -/
theorem trunc_angle_le {v : Int} (lo : -2 ^ 31 ≤ v) (hi : v ≤ 180) : (trunc 32 v).toInt ≤ 180 := by
  rw [trunc_toInt v lo (by omega)]
  exact hi

/-- R167: a command that runs under `SERVO` and touches neither the timer's fields nor `IE` stores an angle or
reads. -/
theorem WaveformFrame.of_effect {i : Instr} (hwf : i.wellFormed = true) (hd : disturbsWaveform i = false)
    (ha : availableUnder .servo i = true) : WaveformFrame s (effect s i) := by
  cases i with
  | tmrGetPeriod | tmrGetCount => exact ⟨rfl, id⟩
  | srvSetAbs a =>
    have ha : -2 ^ 31 ≤ a := by simp [Instr.wellFormed, operandS] at hwf; omega
    refine ⟨rfl, fun _ => trunc_angle_le ?_ ?_⟩ <;> rw [upperClamp_eq_min] <;> omega
  | srvSetRel d =>
    have hlo := clamp_lower (s.curPos.toInt + d) 0 180 (by decide)
    have hhi := clamp_upper (s.curPos.toInt + d) 0 180 (by decide)
    exact ⟨rfl, fun _ => trunc_angle_le (by omega) hhi⟩
  | mscInit | mscNow | mscWait | texSetPeriod => simp [availableUnder, clockPresent, dispatcherPresent] at ha
  | tmrStart | tmrStop | tmrSetPeriod | tmrIrqOn | tmrIrqOff | tmrClrFlag | tmrFlag | srvInit =>
    simp [disturbsWaveform] at hd

/-- R100, R167: a `Cycle` goes on in the pulse or the remainder it is in. -/
theorem Waveform.cycle (h : Waveform n s) (hf : s.flag = false) : Waveform (n + 1) s.cycle := by
  obtain ⟨c, f, e⟩ : ∃ c f, s.cycle = { s with count := c, flag := f } := ⟨_, _, cycle_eq s⟩
  have hposition : WaveformPosition (n + 1) s.cycle := by
    cases h.position with
    | high q m hphase hpin hm hn =>
      have hm := hm.cycle hf
      rw [e] at hm ⊢
      exact .high q (m + 1) hphase hpin hm (congrArg Nat.succ hn)
    | low q m hphase hpin hm hn =>
      have hm := hm.cycle hf
      rw [e] at hm ⊢
      exact .low q (m + 1) hphase hpin hm (congrArg Nat.succ hn)
  rw [e] at hposition ⊢
  exact ⟨h.wellFormed, h.sink, h.ie, h.newPosUpper, h.curPosLower, h.curPosUpper, h.onTime, h.offTime, hposition⟩

/-- R165, R167: the `Service` at the end of the low remainder latches the pending angle and begins the next period. -/
theorem Waveform.beginHigh (h : Waveform n s) (hflag : s.flag = true) (hphase : s.phase = .highPending)
    (hpos : 0 ≤ s.newPos.toInt) : Waveform n s.clearFlag.beginHigh := by
  obtain ⟨-, hsum, -⟩ := h.widths
  have hrange := (pulse_range h.wellFormed hpos h.newPosUpper).1
  cases h.position with
  | high q m hphase' => simp [hphase] at hphase'
  | low q m _ _ hm hn =>
    have hm := hm.flag.mp hflag
    refine ⟨h.wellFormed, h.sink, h.ie, h.newPosUpper, hpos, h.newPosUpper, rfl, rfl,
      .high (q + 1) 0 rfl rfl (.zero rfl rfl rfl rfl hrange) ?_⟩
    calc n = s.cfg.pwmPeriod * q + (s.onTime.toNat + s.offTime.toNat) := by rw [hn, hm, Nat.add_assoc]
      _ = s.cfg.pwmPeriod * (q + 1) := by rw [hsum, Nat.mul_succ]

/-- R165, R167: the `Service` at the end of the high pulse begins the low remainder. -/
theorem Waveform.beginLow (h : Waveform n s) (hflag : s.flag = true) (hphase : s.phase = .lowPending) :
    Waveform n s.clearFlag.beginLow := by
  obtain ⟨-, -, -, hrange⟩ := h.widths
  cases h.position with
  | low q m hphase' => simp [hphase] at hphase'
  | high q m _ _ hm hn =>
    refine ⟨h.wellFormed, h.sink, h.ie, h.newPosUpper, h.curPosLower, h.curPosUpper, h.onTime, h.offTime,
      .low q 0 rfl rfl (.zero rfl rfl rfl rfl hrange) ?_⟩
    rw [hn, hm.flag.mp hflag]
    rfl

theorem Waveform.service (h : Waveform n s) (hflag : s.flag = true) (hpos : 0 ≤ s.service.curPos.toInt) :
    Waveform n s.service := by
  rw [service_servo h.sink] at hpos ⊢
  unfold State.servoPhase at hpos ⊢
  cases hphase : s.phase with
  | highPending =>
    simp only [State.clearFlag_phase, hphase] at hpos ⊢
    exact h.beginHigh hflag hphase hpos
  | lowPending =>
    simp only [State.clearFlag_phase, hphase]
    exact h.beginLow hflag hphase

/-- R167: every step of the run keeps the waveform. -/
theorem Waveform.step (h : Waveform n s) (hs : step s = .next t) (hr : s.nextKind ≠ .reset)
    (hc : ∀ i, s.nextKind.command = some i → disturbsWaveform i = false) (hpos : 0 ≤ t.curPos.toInt) :
    Waveform (n + cycles [s.nextKind]) t := by
  rcases step_effect hs with ⟨hk, -⟩ | ⟨hi, hk, rfl⟩ | ⟨hi, hk, u, hu, rfl⟩ | ⟨-, -, hk, u, hu, rfl⟩ |
    ⟨-, -, w, u, hu, hk, hcmd⟩ <;> rw [hk]
  · exact absurd hk hr
  · have hmark := h.frame (.of_sameBlock (sameBlock_refl s) .service)
    exact hmark.service (irq_iff.mp hi).1 hpos
  · have hmark := h.frame (.of_sameBlock hu .cycle)
    have hflag : s.flag = false := by simpa [State.irq, h.ie] using hi
    obtain ⟨-, -, -, hsame, -⟩ := State.sameBlock_fields hu
    exact hmark.cycle (hsame.trans hflag)
  · have hmark := WaveformFrame.of_sameBlock hu .waitDone
    exact h.frame (hmark.trans ⟨rfl, id⟩)
  · have hmark := WaveformFrame.of_sameBlock hu (.cmd w)
    rcases hcmd with ⟨i, hd, ha, rfl⟩ | ⟨st, rfl⟩
    · refine h.frame (hmark.trans (.of_effect (decode_wellFormed hd) ?_ (h.sink ▸ ha)))
      exact hc i (hk ▸ command_cmd hd)
    · exact h.frame (hmark.trans ⟨rfl, id⟩)

theorem Waveform.path {ks : List StepKind} (h : Waveform n s) (hp : Path s ks t) (hr : noReset ks)
    (hc : noCommand disturbsWaveform ks) (hpos : ∀ pre u, pre <+: ks → Path s pre u → 0 ≤ u.curPos.toInt) :
    Waveform (n + cycles ks) t := by
  induction hp generalizing n with
  | done => exact h
  | @cons s u t ks hs _ ih =>
    obtain ⟨hr1, hr2⟩ := noReset_cons.mp hr
    obtain ⟨hc1, hc2⟩ := List.forall_mem_cons.mp hc
    have hu := h.step hs hr1 hc1 (hpos [s.nextKind] u (by simp) (.cons hs (.done u)))
    rw [cycles_cons, ← Nat.add_assoc]
    exact ih hu hr2 hc2 fun pre v hpre hv => hpos (s.nextKind :: pre) v (by simpa using hpre) (.cons hs hv)

/-- R161: `SRV.INIT` on a stopped timer begins the first high pulse. -/
theorem Waveform.of_srvInit (hwf : s.cfg.servoWellFormed = true) (hk : s.cfg.sink = .servo) (hrun : s.run = false)
    (hflag : s.flag = false) : Waveform 0 (effect s .srvInit) := by
  have hlo : 0 ≤ (90 : S32).toInt := by decide
  have hhi : (90 : S32).toInt ≤ 180 := by decide
  have hrange := (pulse_range hwf hlo hhi).1
  refine ⟨hwf, hk, rfl, hhi, hlo, hhi, rfl, rfl, .high 0 0 rfl rfl (.zero rfl ?_ hflag rfl hrange) rfl⟩
  exact if_neg (Bool.eq_false_iff.mp hrun)

/-- R167: the level of the pin between interrupts. -/
theorem Waveform.pin_iff (h : Waveform n s) (hf : s.flag = false) :
    s.pin = true ↔ n % s.cfg.pwmPeriod < s.onTime.toNat := by
  obtain ⟨-, hsum, -, -⟩ := h.widths
  cases h.position with
  | high q m _ hpin hm hn =>
    have hlt := hm.lt hf
    rw [hn, Nat.mul_add_mod, Nat.mod_eq_of_lt (by omega)]
    exact iff_of_true hpin hlt
  | low q m _ hpin hm hn =>
    have hlt := hm.lt hf
    rw [hn, Nat.add_assoc, Nat.mul_add_mod, Nat.mod_eq_of_lt (by omega)]
    exact iff_of_false (by simp [hpin]) (by omega)

/-- R167: where an interrupt is pending. -/
theorem Waveform.pending (h : Waveform n s) (hf : s.flag = true) :
    (s.phase = .highPending ∧ 0 < n ∧ n % s.cfg.pwmPeriod = 0) ∨
      (s.phase = .lowPending ∧ n % s.cfg.pwmPeriod = s.onTime.toNat) := by
  obtain ⟨-, hsum, -, hoff⟩ := h.widths
  cases h.position with
  | high q m hphase _ hm hn =>
    refine .inr ⟨hphase, ?_⟩
    rw [hn, hm.flag.mp hf, Nat.mul_add_mod, Nat.mod_eq_of_lt (by omega)]
  | low q m hphase _ hm hn =>
    rw [hm.flag.mp hf, Nat.add_assoc, hsum] at hn
    exact .inl ⟨hphase, by omega, by rw [hn]; simp⟩

/-- Settles O55: `Waveform` holds after `SRV.INIT`, is kept by every step, and gives the law. -/
theorem theWaveformLaw : Obligations.TheWaveformLaw := by
  intro s0 s t ks hwf hk hrun hflag hinit hp hr hc hpos
  obtain rfl : effect s0 .srvInit = s := by
    rw [exec_eq, show availableUnder s0.cfg.sink .srvInit = true by rw [hk]; rfl] at hinit
    exact Host.Outcome.next.inj hinit
  have h := (Waveform.of_srvInit hwf hk hrun hflag).path hp hr hc hpos
  rw [Nat.zero_add] at h
  obtain ⟨hon, hsum, -⟩ := h.widths
  exact ⟨hon, hsum, h.pin_iff, h.pending⟩

end Sys2Proof.Machine

/-! SUPPORT. The fields of R20 after a step, whatever the environment and the trace (`State.sameFields`), and which of
them each command writes (R21 to R36). -/

namespace Sys2Proof.Machine

variable {s t u : State} {i : Instr}

/-- What is read from the fields of R20 and the configuration alone is the same. -/
theorem State.sameFields.read {α : Type} (h : s.sameFields t) (f : State → α)
    (hf : ∀ a d p l, f { s with agenda := a, draws := d, poll := p, trace := l } = f s := by intros; rfl) :
    f t = f s := by
  unfold State.sameFields at h
  rw [h, hf]

theorem State.sameFields_of_sameBlock (h : s.sameBlock u) : s.sameFields u := by
  obtain ⟨a, d, p, rfl⟩ := sameBlock_iff_withEnv.mp h
  rfl

theorem State.sameFields_mark (h : s.sameFields u) (k : StepKind) : s.sameFields (u.mark k) := by
  rw [h]; rfl

theorem State.sameFields_iff : s.sameFields t ↔ ∃ a d p l, t = { s.withEnv a d p with trace := l } :=
  ⟨fun h => ⟨t.agenda, t.draws, t.poll, t.trace, h⟩, fun ⟨_, _, _, _, h⟩ => by rw [h]; rfl⟩

theorem cycle_sameFields (h : s.sameFields u) : s.cycle.sameFields u.cycle := by
  rw [h, cycle_eq, cycle_eq]; rfl

theorem execTick_sameFields (h : s.sameFields u) : s.execTick.sameFields u.execTick := by
  obtain ⟨a, d, p, l, rfl⟩ := State.sameFields_iff.mp h
  rcases execTick_cases s with ⟨hx, e⟩ | ⟨hx, hc, e⟩ | ⟨hx, hc, e⟩ <;> rw [e]
  · rw [execTick_disabled (s := { s.withEnv a d p with trace := l }) hx]; rfl
  · rw [execTick_emits (s := { s.withEnv a d p with trace := l }) hx hc]; rfl
  · rw [execTick_counts (s := { s.withEnv a d p with trace := l }) hx hc]; rfl

theorem servoPhase_sameFields (h : s.sameFields u) : s.servoPhase.sameFields u.servoPhase := by
  have hp : u.phase = s.phase := h.read State.phase
  unfold State.servoPhase
  cases hs : s.phase <;> rw [hp, hs, h] <;> rfl

theorem service_sameFields (h : s.sameFields u) : s.service.sameFields u.service := by
  have hc : u.cfg = s.cfg := h.read State.cfg
  have hclear : s.clearFlag.sameFields u.clearFlag := by rw [h]; rfl
  cases hk : s.cfg.sink with
  | none => rw [service_none hk, service_none (hc ▸ hk)]; exact hclear
  | msClock => rw [service_msClock hk, service_msClock (hc ▸ hk), h]; rfl
  | timedExec =>
    rw [service_timedExec hk, service_timedExec (hc ▸ hk)]
    exact execTick_sameFields (by rw [h]; rfl)
  | servo =>
    rw [service_servo hk, service_servo (hc ▸ hk)]
    exact servoPhase_sameFields hclear

theorem effect_sameFields (h : s.sameFields u) (i : Instr) : (effect s i).sameFields (effect u i) := by
  rw [h]
  cases i <;> rfl

/-- R9: the fields after a step are those its operation gives, and a command that is not run leaves all as they
were. -/
theorem step_fields (h : step s = .next t) :
    (s.nextKind = .reset ∧ s.resetBlock.sameFields t) ∨
    (s.irq = true ∧ s.nextKind = .service ∧ s.service.sameFields t) ∨
    (s.nextKind = .cycle ∧ s.cycle.sameFields t) ∨
    (s.nextKind = .waitDone ∧ s.waitDone.sameFields t) ∨
    ((∃ w, s.nextKind = .cmd w) ∧ s.sameFields t) ∨
    (∃ i, s.nextKind.command = some i ∧ availableUnder s.cfg.sink i = true ∧ (effect s i).sameFields t) := by
  rcases step_effect h with ⟨hk, ht⟩ | ⟨hi, hk, rfl⟩ | ⟨-, hk, u, hu, rfl⟩ | ⟨-, -, hk, u, hu, rfl⟩ |
    ⟨-, -, w, u, hu, hk, ⟨i, hd, ha, rfl⟩ | ⟨st, rfl⟩⟩
  · exact .inl ⟨hk, by rw [ht]; rfl⟩
  · exact .inr (.inl ⟨hi, hk, service_sameFields (u := s.mark .service) rfl⟩)
  · have hu := State.sameFields_mark (State.sameFields_of_sameBlock hu) .cycle
    exact .inr (.inr (.inl ⟨hk, cycle_sameFields hu⟩))
  · exact .inr (.inr (.inr (.inl ⟨hk, by rw [hu]; rfl⟩)))
  · have hu := State.sameFields_mark (State.sameFields_of_sameBlock hu) (.cmd w)
    exact .inr (.inr (.inr (.inr (.inr ⟨i, hk ▸ command_cmd hd, ha, effect_sameFields hu i⟩))))
  · exact .inr (.inr (.inr (.inr (.inl ⟨⟨w, hk⟩, by rw [hu]; rfl⟩))))

/-- R76: the fields after a step whose word is the command `i`. -/
theorem step_of_command (h : step s = .next t) (hc : s.nextKind.command = some i) :
    s.sameFields t ∨ (availableUnder s.cfg.sink i = true ∧ (effect s i).sameFields t) := by
  rcases step_fields h with ⟨hk, -⟩ | ⟨-, hk, -⟩ | ⟨hk, -⟩ | ⟨hk, -⟩ | ⟨-, ht⟩ | ⟨j, hj, ha, ht⟩
  · simp [hk, StepKind.command] at hc
  · simp [hk, StepKind.command] at hc
  · simp [hk, StepKind.command] at hc
  · simp [hk, StepKind.command] at hc
  · exact .inl ht
  · obtain rfl : j = i := Option.some.inj (hj.symm.trans hc)
    exact .inr ⟨ha, ht⟩

/-! ### What a command writes -/

/-- R24. -/
theorem effect_ie (s : State) (i : Instr) : (effect s i).ie = (setsIe i || (s.ie && decide (i ≠ .tmrIrqOff))) := by
  cases i <;> simp [effect, setsIe]

/-- R26. -/
theorem effect_flag (s : State) (i : Instr) : (effect s i).flag = (s.flag && !clearsFlag i) := by
  cases i <;> simp [effect, clearsFlag]

/-- R23. -/
theorem effect_run (s : State) (i : Instr) : (effect s i).run = (startsTimer i || (s.run && decide (i ≠ .tmrStop))) := by
  cases i <;> simp [effect, startsTimer]

/-- R25. -/
theorem effect_clksrc (s : State) (i : Instr) : (effect s i).clksrc = (startsTimer i || s.clksrc) := by
  cases i <;> simp [effect, startsTimer]

/-- R36. -/
theorem effect_pinOe (s : State) (i : Instr) : (effect s i).pinOe = (decide (i = .srvInit) || s.pinOe) := by
  cases i <;> simp [effect]

/-- R28. -/
theorem effect_ms (s : State) (i : Instr) : (effect s i).ms = if initsClock i then 0 else s.ms := by
  cases i <;> rfl

/-- R30, R31. -/
theorem effect_dispatcher (s : State) (h : setsExecPeriod i = false) :
    (effect s i).xperiod = s.xperiod ∧ (effect s i).xcount = s.xcount := by
  cases i with
  | texSetPeriod => simp [setsExecPeriod] at h
  | _ => exact ⟨rfl, rfl⟩

/-- The latched fields of the servo (R32, R34, R35, R36). -/
def State.waveform (s : State) : U32 × U32 × S32 × Phase × Bool := (s.onTime, s.offTime, s.curPos, s.phase, s.pin)

/-- R168: no other command latches them. -/
theorem effect_waveform (s : State) (h : i ≠ .srvInit) : (effect s i).waveform = s.waveform := by
  cases i with
  | srvInit => exact absurd rfl h
  | _ => rfl

end Sys2Proof.Machine

/-! O33, O34, O35, O37, O38. Who may write each field of R20 (R21 to R36, R57, R168): the list of a field's writers
with what each leaves, and then the statements. -/

namespace Sys2Proof.Machine

variable {s t : State}

/-- R24: the writers of `IE`. -/
theorem step_ie (h : step s = .next t) :
    t.ie = s.ie ∨ (s.nextKind = .reset ∧ t.ie = false) ∨
    (s.nextKind.command = some .tmrIrqOff ∧ t.ie = false) ∨
    (∃ i, s.nextKind.command = some i ∧ availableUnder s.cfg.sink i = true ∧ setsIe i = true ∧ t.ie = true) := by
  rcases step_fields h with ⟨hk, ht⟩ | ⟨-, hk, ht⟩ | ⟨hk, ht⟩ | ⟨hk, ht⟩ | ⟨-, ht⟩ | ⟨i, hi, ha, ht⟩ <;>
    replace ht := ht.read State.ie
  · exact .inr (.inl ⟨hk, ht⟩)
  · exact .inl (ht.trans (service_frame s).1)
  · exact .inl (ht.trans (by rw [cycle_eq]))
  · exact .inl ht
  · exact .inl ht
  · have ht := ht.trans (effect_ie s i)
    cases hs : setsIe i with
    | true => exact .inr (.inr (.inr ⟨i, hi, ha, hs, by simpa [hs] using ht⟩))
    | false =>
      by_cases hoff : i = .tmrIrqOff
      · exact .inr (.inr (.inl ⟨hoff ▸ hi, by simpa [hs, hoff, setsIe] using ht⟩))
      · exact .inl (by simpa [hs, hoff] using ht)

/-- R26: the writers of `FLAG`. -/
theorem step_flag (h : step s = .next t) :
    (s.nextKind = .cycle ∧ t.flag = (s.flag || (s.run && decide (t.count = 0)))) ∨
    (s.nextKind ≠ .cycle ∧ (t.flag = s.flag ∨ (t.flag = false ∧
      (s.nextKind = .reset ∨ s.nextKind = .service ∨ ∃ i, s.nextKind.command = some i ∧ clearsFlag i = true)))) := by
  rcases step_fields h with ⟨hk, ht⟩ | ⟨-, hk, ht⟩ | ⟨hk, ht⟩ | ⟨hk, ht⟩ | ⟨⟨w, hk⟩, ht⟩ | ⟨i, hi, -, ht⟩
  · exact .inr ⟨by simp [hk], .inr ⟨ht.read State.flag, .inl hk⟩⟩
  · exact .inr ⟨by simp [hk], .inr ⟨(ht.read State.flag).trans (service_flag s), .inr (.inl hk)⟩⟩
  · refine .inl ⟨hk, ?_⟩
    rw [ht.read State.flag, ht.read State.count, cycle_eq]
    cases s.run <;> rfl
  · exact .inr ⟨by simp [hk], .inl (ht.read State.flag)⟩
  · exact .inr ⟨by simp [hk], .inl (ht.read State.flag)⟩
  · refine .inr ⟨fun hk => by simp [hk, StepKind.command] at hi, ?_⟩
    have ht := (ht.read State.flag).trans (effect_flag s i)
    cases hc : clearsFlag i with
    | true => exact .inr ⟨by simpa [hc] using ht, .inr (.inr ⟨i, hi, hc⟩)⟩
    | false => exact .inl (by simpa [hc] using ht)

/-- Settles O33, from the writers of `IE`. -/
theorem onlyIrqOffClearsTheInterruptEnable : Obligations.OnlyIrqOffClearsTheInterruptEnable := by
  intro s t h
  rcases step_ie h with ht | ⟨hk, ht⟩ | ⟨hc, ht⟩ | ⟨i, hc, -, hi, ht⟩
  · exact ⟨fun h0 h1 => by simp [ht, h0] at h1, fun h1 h0 => by simp [ht, h1] at h0⟩
  · exact ⟨fun _ h1 => by simp [ht] at h1, fun _ _ => .inl hk⟩
  · exact ⟨fun _ h1 => by simp [ht] at h1, fun _ _ => .inr hc⟩
  · exact ⟨fun _ _ => ⟨i, hc, hi⟩, fun _ h0 => by simp [ht] at h0⟩

/-- Settles O34, from the writers of `FLAG`. -/
theorem onlyAnExpirySetsTheFlag : Obligations.OnlyAnExpirySetsTheFlag := by
  intro s t h
  rcases step_flag h with ⟨hk, ht⟩ | ⟨hk, ht | ⟨ht, hw⟩⟩
  · refine ⟨fun h0 h1 => ⟨hk, by simpa [h0, h1] using ht⟩, fun _ hr hc => by simp [ht, hr, hc], fun h1 h0 => ?_⟩
    simp [ht, h1] at h0
  · exact ⟨fun h0 h1 => by simp [ht, h0] at h1, fun hc => absurd hc hk, fun h1 h0 => by simp [ht, h1] at h0⟩
  · exact ⟨fun _ h1 => by simp [ht] at h1, fun hc => absurd hc hk, fun _ _ => hw⟩

/-- R165, R203: `Service` does not clear `CLKSRC`. -/
theorem service_clksrc (h : s.clksrc = true) : s.service.clksrc = true := by
  rcases service_cases s with ⟨-, e⟩ | ⟨-, e⟩ | ⟨-, x, l, e, -⟩ | ⟨-, -, e⟩ | ⟨-, -, e⟩ <;> rw [e]
  · exact h
  · exact h
  · exact h

/-- R11: but for `Reset`, `Service` and a command that is run, a step writes `COUNT`, `FLAG` and `WAITING` at most. -/
theorem step_writes (h : step s = .next t) :
    (s.nextKind = .reset ∧ s.resetBlock.sameFields t) ∨ (s.nextKind = .service ∧ s.service.sameFields t) ∨
    (∃ i, s.nextKind.command = some i ∧ availableUnder s.cfg.sink i = true ∧ (effect s i).sameFields t) ∨
    (∃ c f w, ({ s with count := c, flag := f, waiting := w } : State).sameFields t) := by
  rcases step_fields h with h | ⟨-, h⟩ | ⟨-, ht⟩ | ⟨-, ht⟩ | ⟨-, ht⟩ | h
  · exact .inl h
  · exact .inr (.inl h)
  · exact .inr (.inr (.inr ⟨_, _, s.waiting, cycle_eq s ▸ ht⟩))
  · exact .inr (.inr (.inr ⟨s.count, s.flag, false, ht⟩))
  · exact .inr (.inr (.inr ⟨s.count, s.flag, s.waiting, ht⟩))
  · exact .inr (.inr (.inl h))

/-- R25: `CLKSRC` stays set until `Reset`. -/
theorem step_clksrc (h : step s = .next t) (hs : s.clksrc = true) : t.clksrc = true ∨ s.nextKind = .reset := by
  rcases step_writes h with ⟨hk, -⟩ | ⟨-, ht⟩ | ⟨i, -, -, ht⟩ | ⟨c, f, w, ht⟩
  · exact .inr hk
  · exact .inl ((ht.read State.clksrc).trans (service_clksrc hs))
  · exact .inl ((ht.read State.clksrc).trans (by simp [effect_clksrc, hs]))
  · exact .inl ((ht.read State.clksrc).trans hs)

theorem servoPresent_iff {k : Sink} : servoPresent k = true ↔ k = .servo := by cases k <;> decide

/-- R36: the writers of `PIN_OE`. -/
theorem step_pinOe (h : step s = .next t) :
    t.pinOe = s.pinOe ∨ (s.nextKind = .reset ∧ t.pinOe = false) ∨
    (s.nextKind.command = some .srvInit ∧ s.cfg.sink = .servo ∧ t.pinOe = true) := by
  rcases step_writes h with ⟨hk, ht⟩ | ⟨-, ht⟩ | ⟨i, hi, ha, ht⟩ | ⟨c, f, w, ht⟩ <;>
    replace ht := ht.read State.pinOe
  · exact .inr (.inl ⟨hk, ht⟩)
  · obtain ⟨-, -, -, -, -, hframe, -⟩ := service_frame s
    exact .inl (ht.trans hframe)
  · by_cases hinit : i = .srvInit
    · subst hinit
      exact .inr (.inr ⟨hi, servoPresent_iff.mp ha, ht⟩)
    · exact .inl (by simpa [effect_pinOe, hinit] using ht)
  · exact .inl ht

/-- Settles O35, from the writers of the two bits. -/
theorem clockSourceAndPinEnableAreClearedOnlyByReset : Obligations.ClockSourceAndPinEnableAreClearedOnlyByReset := by
  intro s t h
  refine ⟨fun h1 h0 => (step_clksrc h h1).resolve_left (by simp [h0]), ?_⟩
  rcases step_pinOe h with ht | ⟨hk, ht⟩ | ⟨hc, hsink, ht⟩
  · exact ⟨fun h1 h0 => by simp [ht, h1] at h0, fun h0 h1 => by simp [ht, h0] at h1⟩
  · exact ⟨fun _ _ => hk, fun _ h1 => by simp [ht] at h1⟩
  · exact ⟨fun _ h0 => by simp [ht] at h0, fun _ _ => ⟨hc, hsink⟩⟩

/-- R28, R31: the straps under which `Service` writes the clock and the dispatcher. -/
theorem service_ms_xcount (s : State) :
    (s.service.ms = s.ms ∨ s.cfg.sink = .msClock ∨ s.cfg.sink = .timedExec) ∧
    (s.service.xcount = s.xcount ∨ s.cfg.sink = .timedExec) := by
  rcases service_cases s with ⟨-, e⟩ | ⟨hk, e⟩ | ⟨hk, -⟩ | ⟨-, -, e⟩ | ⟨-, -, e⟩
  · rw [e]; exact ⟨.inl rfl, .inl rfl⟩
  · rw [e]; exact ⟨.inr (.inl hk), .inl rfl⟩
  · exact ⟨.inr (.inr hk), .inr hk⟩
  · rw [e]; exact ⟨.inl rfl, .inl rfl⟩
  · rw [e]; exact ⟨.inl rfl, .inl rfl⟩

/-- Settles O37, by the kinds of step. -/
theorem sinkFieldsHaveOnlyTheirOwnWriters : Obligations.SinkFieldsHaveOnlyTheirOwnWriters := by
  intro s t h
  rcases step_writes h with ⟨hk, -⟩ | ⟨hk, ht⟩ | ⟨i, hi, -, ht⟩ | ⟨c, f, w, ht⟩
  · exact ⟨fun _ => .inl hk, fun _ => .inl hk, fun _ => .inl hk⟩
  · obtain ⟨hms, hxcount⟩ := service_ms_xcount s
    obtain ⟨-, -, -, hxperiod, -⟩ := service_frame s
    refine ⟨fun hne => .inr (.inl ⟨hk, hms.resolve_left ?_⟩),
      fun hne => absurd ((ht.read State.xperiod).trans hxperiod) hne,
      fun hne => .inr (.inl ⟨hk, hxcount.resolve_left ?_⟩)⟩
    · rwa [← ht.read State.ms]
    · rwa [← ht.read State.xcount]
  · refine ⟨fun hne => .inr (.inr ⟨i, hi, ?_⟩), fun hne => .inr ⟨i, hi, ?_⟩, fun hne => .inr (.inr ⟨i, hi, ?_⟩)⟩ <;>
      by_contra hno
    · exact hne ((ht.read State.ms).trans (by simp [effect_ms, hno]))
    · exact hne ((ht.read State.xperiod).trans (effect_dispatcher s (by simpa using hno)).1)
    · exact hne ((ht.read State.xcount).trans (effect_dispatcher s (by simpa using hno)).2)
  · exact ⟨fun hne => absurd (ht.read State.ms) hne, fun hne => absurd (ht.read State.xperiod) hne,
      fun hne => absurd (ht.read State.xcount) hne⟩

/-- R168: `Service` latches an angle under `SERVO` alone. -/
theorem service_waveform (h : s.cfg.sink ≠ .servo) : s.service.waveform = s.waveform := by
  rcases service_cases s with ⟨-, e⟩ | ⟨-, e⟩ | ⟨-, x, l, e, -⟩ | ⟨hk, -⟩ | ⟨hk, -⟩
  · rw [e]; rfl
  · rw [e]; rfl
  · rw [e]; rfl
  · exact absurd hk h
  · exact absurd hk h

/-- R168: a step that does not latch the servo's fields leaves them as they were. -/
theorem step_waveform (h : step s = .next t) (hr : s.nextKind ≠ .reset)
    (hs : ¬ (s.nextKind = .service ∧ s.cfg.sink = .servo)) (hc : s.nextKind.command ≠ some .srvInit) :
    t.waveform = s.waveform := by
  rcases step_writes h with ⟨hk, -⟩ | ⟨hk, ht⟩ | ⟨i, hi, -, ht⟩ | ⟨c, f, w, ht⟩
  · exact absurd hk hr
  · exact (ht.read State.waveform).trans (service_waveform fun hsink => hs ⟨hk, hsink⟩)
  · exact (ht.read State.waveform).trans (effect_waveform s fun hi' => hc (hi' ▸ hi))
  · exact ht.read State.waveform

/-- Settles O38: the latched fields by `step_waveform`, the timer's by what the two commands write. -/
theorem anglesAreNotTornMidPulse : Obligations.AnglesAreNotTornMidPulse := by
  intro s t h hr
  refine ⟨fun hs hc => by simpa [State.waveform] using step_waveform h hr hs hc, fun ⟨a, hc⟩ => ?_⟩
  rcases hc with hc | hc <;> rcases step_of_command h hc with ht | ⟨-, ht⟩
  all_goals exact ⟨ht.read State.reload, ht.read State.count, ht.read State.run, ht.read State.flag, ht.read State.ie⟩

end Sys2Proof.Machine

/-! O41. The invariants of R40 hold after `Reset`, and every operation keeps them. The trace matters to the
angles' lower bound (g) alone, so a state with the same fields and a longer trace meets them too (`Inv.frame`). -/

namespace Sys2Proof.Machine

variable {s t u : State} {k : StepKind} {i : Instr}

/-! ### A negative angle commanded -/

/-- R40 (g): the trace only grows until `Reset`, so what has not been commanded later was not commanded before. -/
theorem negativeCommanded_of_suffix (hc : t.cfg = s.cfg) (hl : s.trace <:+ t.trace)
    (h : t.negativeCommanded = false) : s.negativeCommanded = false := by
  unfold State.negativeCommanded at h ⊢
  rw [hc] at h
  cases hk : servoPresent s.cfg.sink with
  | false => rfl
  | true =>
    rw [hk, Bool.true_and, List.any_eq_false] at h
    rw [Bool.true_and, List.any_eq_false]
    exact fun o ho => h o (hl.subset ho)

/-- R33, R40 (g): a command that is run while no negative `SRV.SETABS` is in the trace is none. -/
theorem setsNegativeAngle_of_mark (ha : availableUnder s.cfg.sink i = true) (hk : k.command = some i)
    (h : (s.mark k).negativeCommanded = false) : setsNegativeAngle i = false := by
  cases i with
  | srvSetAbs a =>
    have ha : servoPresent s.cfg.sink = true := ha
    simp only [State.negativeCommanded, State.mark_cfg, State.mark_trace, ha, Bool.true_and, List.any_cons, hk,
      Bool.or_eq_false_iff] at h
    exact h.1
  | _ => rfl

/-! ### What keeps the invariants -/

/-- The invariants speak of the fields of R20, the configuration and `negativeCommanded`. -/
theorem Inv.frame (h : Inv s) (hst : s.sameFields t) (hl : s.trace <:+ t.trace) : Inv t := by
  have hneg := negativeCommanded_of_suffix (hst.read State.cfg) hl
  rw [hst] at hneg ⊢
  exact { h with
    newPosLower := fun hn => h.newPosLower (hneg hn)
    curPosLower := fun hn => h.curPosLower (hneg hn) }

theorem Inv.mark (h : Inv s) (hu : s.sameBlock u) (k : StepKind) : Inv (u.mark k) :=
  h.frame (State.sameFields_mark (State.sameFields_of_sameBlock hu) k)
    (by rw [hu]; exact List.suffix_cons _ _)

/-- R40, R42: every state after `Reset`. -/
theorem Inv.afterReset (c : Config) (moves : List Move) (drawn : Nat) : Inv (State.afterReset c moves drawn) where
  countBelowPeriod := by simp [State.afterReset, State.resetWith]
  countPinned := fun _ => rfl
  runHasClock := by simp [State.afterReset, State.resetWith]
  waitHasInterrupt := by simp [State.afterReset, State.resetWith]
  newPosUpper := by simp [State.afterReset, State.resetWith]
  curPosUpper := by simp [State.afterReset, State.resetWith]
  pinIsPhase := by simp [State.afterReset, State.resetWith]
  widthsSum := by simp [State.afterReset, State.resetWith]
  onTimeIsLatched := by simp [State.afterReset, State.resetWith]
  newPosLower := by simp [State.afterReset, State.resetWith]
  curPosLower := by simp [State.afterReset, State.resetWith]

theorem Inv.cycle (h : Inv s) : Inv s.cycle := by
  rw [cycle_eq]
  exact { h with }

theorem Inv.waitDone (h : Inv s) : Inv s.waitDone :=
  { h with waitHasInterrupt := by simp }

/-- R160, R40 (f): the two widths of any angle make up the period modulo 2^32. -/
theorem pulse_sum_emod (c : Config) (pos : S32) :
    (((pulse c pos).1.toNat + (pulse c pos).2.toNat : Nat) : Int) % 2 ^ 32 = (c.pwmPeriod : Int) % 2 ^ 32 := by
  have hoff := pulse_off_toNat c pos
  omega

/-- R150, R40 (a): the dispatcher's new count is below the period. -/
theorem execCount_lt {x p : U32} (hx : x.toNat < p.toNat) (hne : x + 1 ≠ p) : (x + 1).toNat < p.toNat := by
  bv_omega

/-- R13: `Service` only adds to the trace. -/
theorem service_trace_suffix (s : State) : s.trace <:+ s.service.trace := by
  rcases service_cases s with ⟨-, e⟩ | ⟨-, e⟩ | ⟨-, x, l, e, hx⟩ | ⟨-, -, e⟩ | ⟨-, -, e⟩
  · rw [e]
  · rw [e]
  · rw [e]
    rcases hx with ⟨-, -, rfl⟩ | ⟨-, -, -, rfl⟩ | ⟨-, -, -, rfl⟩
    · exact List.suffix_rfl
    · exact List.suffix_cons _ _
    · exact List.suffix_rfl
  · rw [e]
    exact List.suffix_cons _ _
  · rw [e]
    exact List.suffix_cons _ _

/-- R150, R40 (a): `Service` keeps the dispatcher's count below its period. -/
theorem Inv.service_dispatcher (h : Inv s) :
    (0 < s.service.xperiod.toNat → s.service.xcount.toNat < s.service.xperiod.toNat) ∧
    (s.service.xperiod = 0 → s.service.xcount = 0) := by
  have same : (0 < s.xperiod.toNat → s.xcount.toNat < s.xperiod.toNat) ∧ (s.xperiod = 0 → s.xcount = 0) :=
    ⟨h.countBelowPeriod, h.countPinned⟩
  rcases service_cases s with ⟨-, e⟩ | ⟨-, e⟩ | ⟨-, x, l, e, hx⟩ | ⟨-, -, e⟩ | ⟨-, -, e⟩ <;> rw [e]
  · exact same
  · exact same
  · rcases hx with ⟨-, rfl, -⟩ | ⟨-, -, rfl, -⟩ | ⟨hp, hne, rfl, -⟩
    · exact ⟨id, fun _ => rfl⟩
    · exact ⟨id, fun _ => rfl⟩
    · exact ⟨fun hpos => execCount_lt (h.countBelowPeriod hpos) hne, fun h0 => absurd h0 hp⟩
  · exact same
  · exact same

/-- R203, R40: `Service` keeps the invariants. -/
theorem Inv.service (h : Inv s) : Inv s.service := by
  have hneg := negativeCommanded_of_suffix (service_cfg s) (service_trace_suffix s)
  obtain ⟨hcount, hpinned⟩ := h.service_dispatcher
  rcases service_cases s with ⟨-, e⟩ | ⟨-, e⟩ | ⟨-, x, l, e, -⟩ | ⟨-, -, e⟩ | ⟨-, -, e⟩ <;>
    rw [e] at hneg hcount hpinned ⊢
  · exact { h with }
  · exact { h with }
  · exact { h with
      countBelowPeriod := hcount
      countPinned := hpinned
      newPosLower := h.newPosLower ∘ hneg
      curPosLower := h.curPosLower ∘ hneg }
  · exact { h with
      runHasClock := fun _ => rfl
      curPosUpper := h.newPosUpper
      pinIsPhase := iff_of_true rfl rfl
      widthsSum := fun _ => pulse_sum_emod s.cfg s.newPos
      onTimeIsLatched := fun _ => pulse_on_toNat s.cfg s.newPos
      newPosLower := h.newPosLower ∘ hneg
      curPosLower := h.newPosLower ∘ hneg }
  · exact { h with
      runHasClock := fun _ => rfl
      pinIsPhase := iff_of_false Bool.false_ne_true Phase.noConfusion
      newPosLower := h.newPosLower ∘ hneg
      curPosLower := h.curPosLower ∘ hneg }

/-- R75, R40: a command that is run keeps the invariants. One that may clear `IE` is run in no wait, and a negative
angle is in the trace when it is stored. -/
theorem Inv.effect (h : Inv s) (hw : s.waiting = false) (hwf : i.wellFormed = true)
    (hneg : s.negativeCommanded = false → setsNegativeAngle i = false) : Inv (effect s i) := by
  cases i with
  | tmrSetPeriod | tmrGetPeriod | tmrGetCount | tmrClrFlag | tmrFlag => exact { h with }
  | tmrStart => exact { h with runHasClock := fun _ => rfl }
  | tmrStop => exact { h with runHasClock := Bool.noConfusion }
  | tmrIrqOff => exact { h with waitHasInterrupt := fun hw' => absurd (hw.symm.trans hw') Bool.false_ne_true }
  | tmrIrqOn | mscNow | mscWait => exact { h with waitHasInterrupt := fun _ => rfl }
  | mscInit => exact { h with runHasClock := fun _ => rfl, waitHasInterrupt := fun _ => rfl }
  | texSetPeriod =>
    exact { h with waitHasInterrupt := fun _ => rfl, countBelowPeriod := id, countPinned := fun _ => rfl }
  | srvInit =>
    have hlo : 0 ≤ (90 : S32).toInt := by decide
    have hhi : (90 : S32).toInt ≤ 180 := by decide
    exact { h with
      runHasClock := fun _ => rfl
      waitHasInterrupt := fun _ => rfl
      newPosUpper := hhi
      curPosUpper := hhi
      pinIsPhase := iff_of_true rfl rfl
      widthsSum := fun _ => pulse_sum_emod s.cfg 90
      onTimeIsLatched := fun _ => pulse_on_toNat s.cfg 90
      newPosLower := fun _ => hlo
      curPosLower := fun _ => hlo }
  | srvSetAbs a =>
    have hrange : -2 ^ 31 ≤ a := by simp [Instr.wellFormed, operandS] at hwf; omega
    have hstored : (trunc 32 (upperClamp a)).toInt = min a 180 := by
      rw [trunc_toInt] <;> rw [upperClamp_eq_min] <;> omega
    exact { h with
      newPosUpper := hstored.trans_le (min_le_right a 180)
      newPosLower := fun hn => by
        have ha : 0 ≤ a := by simpa [setsNegativeAngle] using hneg hn
        exact hstored.symm ▸ le_min ha (by decide) }
  | srvSetRel d =>
    have hlo := clamp_lower (s.curPos.toInt + d) 0 180 (by decide)
    have hhi := clamp_upper (s.curPos.toInt + d) 0 180 (by decide)
    have hstored := trunc_toInt (clamp (s.curPos.toInt + d) 0 180) (by omega) (by omega)
    exact { h with
      newPosUpper := hstored.trans_le hhi
      newPosLower := fun _ => hstored.symm ▸ hlo }

/-- Settles O41, by the kinds of step. -/
theorem everyStepKeepsTheInvariants : Obligations.EveryStepKeepsTheInvariants := by
  intro s t h hs
  rcases step_effect hs with ⟨-, ht⟩ | ⟨-, -, rfl⟩ | ⟨-, -, u, hu, rfl⟩ | ⟨-, -, -, u, hu, rfl⟩ |
    ⟨-, hw, w, u, hu, -, ⟨i, hd, ha, rfl⟩ | ⟨st, rfl⟩⟩
  · rw [ht]
    exact .afterReset s.cfg t.agenda t.draws
  · exact (h.mark (sameBlock_refl s) .service).service
  · exact (h.mark hu .cycle).cycle
  · exact (h.mark hu .waitDone).waitDone
  · have hm := h.mark hu (.cmd w)
    obtain ⟨hcfg, -, -, -, -, -, -, -, hwaiting, -⟩ := State.sameBlock_fields hu
    refine hm.effect (hwaiting.trans hw) (decode_wellFormed hd) fun hn => ?_
    exact setsNegativeAngle_of_mark (hcfg ▸ ha) (command_cmd hd) hn
  · exact (h.mark hu (.cmd w)).frame rfl (List.suffix_cons _ _)

end Sys2Proof.Machine

/-! O40, O42. The fields of the sinks not selected (R37, R77, U15): a unit that the strap does not have keeps its fields
at their reset values. -/

namespace Sys2Proof.Machine

variable {s t : State} {i : Instr}

/-- R77, U15: the three units, each with the straps that do not have it. -/
theorem unselected_iff : Unselected s ↔
    (clockPresent s.cfg.sink = false → s.clockAtReset) ∧ (dispatcherPresent s.cfg.sink = false → s.dispatcherAtReset) ∧
    (servoPresent s.cfg.sink = false → s.servoAtReset) := by
  unfold Unselected
  cases s.cfg.sink <;> simp [clockPresent, dispatcherPresent, servoPresent]

/-- R42, U15: every state after `Reset`. -/
theorem Unselected.afterReset (c : Config) (moves : List Move) (drawn : Nat) :
    Unselected (State.afterReset c moves drawn) :=
  unselected_iff.mpr ⟨fun _ => ⟨rfl, rfl, rfl⟩, fun _ => ⟨rfl, rfl⟩, fun _ => ⟨rfl, rfl, rfl, rfl, rfl, rfl, rfl⟩⟩

/-- R203, U15: the arm of the strap writes the fields of its own sink alone. -/
theorem Unselected.service (h : Unselected s) : Unselected s.service := by
  obtain ⟨hclock, hdispatcher, hservo⟩ := unselected_iff.mp h
  rcases service_cases s with ⟨-, e⟩ | ⟨hk, e⟩ | ⟨hk, x, l, e, -⟩ | ⟨hk, -, e⟩ | ⟨hk, -, e⟩ <;>
    rw [e, unselected_iff]
  · exact ⟨hclock, hdispatcher, hservo⟩
  · exact ⟨by simp [hk, clockPresent], hdispatcher, hservo⟩
  · exact ⟨by simp [hk, clockPresent], by simp [hk, dispatcherPresent], hservo⟩
  · exact ⟨hclock, hdispatcher, by simp [hk, servoPresent]⟩
  · exact ⟨hclock, hdispatcher, by simp [hk, servoPresent]⟩

/-- R77, U15: a command that is run writes the fields of its own sink alone, which the strap has. -/
theorem Unselected.effect (h : Unselected s) (ha : availableUnder s.cfg.sink i = true) : Unselected (effect s i) := by
  obtain ⟨hclock, hdispatcher, hservo⟩ := unselected_iff.mp h
  cases i with
  | tmrStart | tmrStop | tmrSetPeriod | tmrGetPeriod | tmrGetCount | tmrIrqOn | tmrIrqOff | tmrClrFlag | tmrFlag =>
    exact h
  | mscInit | mscNow | mscWait =>
    exact unselected_iff.mpr ⟨fun hn => absurd (hn.symm.trans ha) Bool.false_ne_true, hdispatcher, hservo⟩
  | texSetPeriod =>
    exact unselected_iff.mpr ⟨hclock, fun hn => absurd (hn.symm.trans ha) Bool.false_ne_true, hservo⟩
  | srvInit | srvSetAbs | srvSetRel =>
    exact unselected_iff.mpr ⟨hclock, hdispatcher, fun hn => absurd (hn.symm.trans ha) Bool.false_ne_true⟩

theorem Unselected.waitDone (h : Unselected s) : Unselected s.waitDone := by
  obtain ⟨hclock, hdispatcher, hservo⟩ := unselected_iff.mp h
  refine unselected_iff.mpr ⟨fun hn => ?_, hdispatcher, hservo⟩
  obtain ⟨hms, -, hdeadline⟩ := hclock hn
  exact ⟨hms, rfl, hdeadline⟩

/-- Settles O42, by the kinds of step. -/
theorem unselectedSinksStayAtReset : Obligations.UnselectedSinksStayAtReset := by
  intro s t h hs
  rcases step_fields hs with ⟨-, ht⟩ | ⟨-, -, ht⟩ | ⟨-, ht⟩ | ⟨-, ht⟩ | ⟨-, ht⟩ | ⟨i, -, ha, ht⟩ <;>
    rw [ht.read Unselected]
  · exact .afterReset s.cfg s.agenda s.draws
  · exact h.service
  · exact cycle_eq s ▸ h
  · exact h.waitDone
  · exact h
  · exact h.effect ha

/-- Settles O40: both hold of every state after `Reset`, and `State.reset` is one. -/
theorem resetStatesMeetTheInvariants : Obligations.ResetStatesMeetTheInvariants :=
  ⟨fun c moves drawn => ⟨.afterReset c moves drawn, .afterReset c moves drawn⟩, rfl⟩

end Sys2Proof.Machine

/-! O45. Before a `Service` the host has started the timer and set `IE` (R23, R24, R42): without the one `FLAG` stays 0,
without the other `IE` does. -/

namespace Sys2Proof.Machine

variable {s t : State} {k : StepKind} {ks : List StepKind}

/-- The step has a command of the class `p` that the strap of `c` has, so that it is run (R76, R77). -/
def StepKind.Runs (c : Config) (p : Instr → Bool) (k : StepKind) : Prop :=
  ∃ i, k.command = some i ∧ availableUnder c.sink i = true ∧ p i = true

theorem nextKind_ne_service (hi : s.irq = false) : s.nextKind ≠ .service := fun hk => by
  have he := enabled_nextKind s
  rw [hk] at he
  exact Bool.false_ne_true (hi.symm.trans he)

/-- R11 (a): if no interrupt is pending while `P` holds, and only the commands of the class `p` end `P`, then a run
from `P` that has a `Service` runs one of them. -/
theorem Path.exists_runs_of_service {P : State → Prop} {p : Instr → Bool} (hirq : ∀ s, P s → s.irq = false)
    (hstep : ∀ s t, P s → step s = .next t → P t ∨ s.nextKind.Runs s.cfg p) (h : Path s ks t) (hs : P s)
    (hm : .service ∈ ks) : ∃ k ∈ ks, k.Runs s.cfg p := by
  induction h with
  | done => simp at hm
  | @cons s u _ ks h1 _ ih =>
    rcases hstep s u hs h1 with hu | hruns
    · have hm := (List.mem_cons.mp hm).resolve_left (nextKind_ne_service (hirq s hs)).symm
      obtain ⟨k, hk, hruns⟩ := ih hu hm
      exact ⟨k, List.mem_cons_of_mem _ hk, step_cfg h1 ▸ hruns⟩
    · exact ⟨_, List.mem_cons_self, hruns⟩

/-- R23, R26: a stopped timer with no flag pending stays so until a command starts it. -/
theorem step_of_stopped (hs : s.run = false ∧ s.flag = false) (h : step s = .next t) :
    (t.run = false ∧ t.flag = false) ∨ s.nextKind.Runs s.cfg startsTimer := by
  obtain ⟨hrun, hflag⟩ := hs
  rcases step_fields h with ⟨-, ht⟩ | ⟨hi, -⟩ | ⟨-, ht⟩ | ⟨-, ht⟩ | ⟨-, ht⟩ | ⟨i, hi, ha, ht⟩
  · exact .inl ⟨ht.read State.run, ht.read State.flag⟩
  · simp [State.irq, hflag] at hi
  · rw [cycle_stopped hrun] at ht
    exact .inl ⟨(ht.read State.run).trans hrun, (ht.read State.flag).trans hflag⟩
  · exact .inl ⟨(ht.read State.run).trans hrun, (ht.read State.flag).trans hflag⟩
  · exact .inl ⟨(ht.read State.run).trans hrun, (ht.read State.flag).trans hflag⟩
  · cases hstart : startsTimer i with
    | true => exact .inr ⟨i, hi, ha, hstart⟩
    | false =>
      exact .inl ⟨(ht.read State.run).trans (by simp [effect_run, hstart, hrun]),
        (ht.read State.flag).trans (by simp [effect_flag, hflag])⟩

/-- R24: `IE` stays 0 until a command sets it. -/
theorem step_of_ie_off (hs : s.ie = false) (h : step s = .next t) :
    t.ie = false ∨ s.nextKind.Runs s.cfg setsIe := by
  rcases step_ie h with ht | ⟨-, ht⟩ | ⟨-, ht⟩ | ⟨i, hi, ha, hset, -⟩
  · exact .inl (ht.trans hs)
  · exact .inl ht
  · exact .inl ht
  · exact .inr ⟨i, hi, ha, hset⟩

/-- Settles O45: a stopped timer with no flag pending, and `IE` = 0, each keep `Service` off and hold after `Reset`. -/
theorem noServiceBeforeTheHostStartsAndEnables : Obligations.NoServiceBeforeTheHostStartsAndEnables :=
  fun _ _ _ _ _ h hm =>
    ⟨h.exists_runs_of_service (P := fun s => s.run = false ∧ s.flag = false) (fun s hs => by simp [State.irq, hs.2])
        (fun _ _ => step_of_stopped) ⟨rfl, rfl⟩ hm,
      h.exists_runs_of_service (P := fun s => s.ie = false) (fun s hs => by simp [State.irq, hs])
        (fun _ _ => step_of_ie_off) rfl hm⟩

end Sys2Proof.Machine

/-! O39. No rule reads `CLKSRC` (R25): scheduling, and then the operation of each kind of step, commutes with a change
of it, but for the `CLKSRC` it leaves. -/

namespace Sys2Proof.Machine

variable {s t t' : State} {k : StepKind} {b : Bool}

/-- The block of `s` with another `CLKSRC`. -/
def State.withClksrc (s : State) (b : Bool) : State := { s with clksrc := b }

/-- `t` is `s` but for `CLKSRC`. -/
def State.sameButClksrc (s t : State) : Prop := t = { s with clksrc := t.clksrc }

theorem idle_withClksrc (s : State) (b : Bool) : (s.withClksrc b).idle = (s.idle.1, s.idle.2.withClksrc b) := by
  have hw : (s.withClksrc b).waitOver = s.waitOver := rfl
  have hp : (s.withClksrc b).patience = s.patience := rfl
  unfold State.idle
  rw [hw, hp]
  cases s.waitOver with
  | false => rfl
  | true => cases s.patience <;> rfl

/-- R11, R25: which step comes next does not depend on `CLKSRC`. -/
theorem schedule_withClksrc (s : State) (b : Bool) :
    (s.withClksrc b).schedule = (s.schedule.1, s.schedule.2.withClksrc b) := by
  by_cases hr : ∃ rest, s.agenda = .resetAtOnce :: rest
  · obtain ⟨rest, ha⟩ := hr
    rw [schedule_resetAtOnce_head ha, schedule_resetAtOnce_head (s := s.withClksrc b) ha]
    rfl
  have hr : ∀ rest, s.agenda ≠ .resetAtOnce :: rest := not_exists.mp hr
  cases hi : s.irq with
  | true => rw [schedule_service hi hr, schedule_service (s := s.withClksrc b) hi hr]
  | false =>
    match ha : s.agenda with
    | .resetAtOnce :: rest => exact absurd ha (hr rest)
    | .reset :: _ => rw [schedule_reset_head ha hi, schedule_reset_head (s := s.withClksrc b) ha hi]; rfl
    | .cycle :: _ => rw [schedule_cycle_head ha hi, schedule_cycle_head (s := s.withClksrc b) ha hi]; rfl
    | .cmd w :: _ =>
      cases hw : s.waiting with
      | false => rw [schedule_cmd_head ha hi hw, schedule_cmd_head (s := s.withClksrc b) ha hi hw]; rfl
      | true =>
        rw [schedule_cmd_held ha hi hw, schedule_cmd_held (s := s.withClksrc b) ha hi hw, idle_withClksrc]
    | .waitDone :: _ =>
      cases hw : s.waitOver with
      | false =>
        rw [schedule_waitDone_held ha hi hw, schedule_waitDone_held (s := s.withClksrc b) ha hi hw, idle_withClksrc]
      | true => rw [schedule_waitDone_head ha hi hw, schedule_waitDone_head (s := s.withClksrc b) ha hi hw]; rfl
    | [] => rw [schedule_nil ha hi, schedule_nil (s := s.withClksrc b) ha hi, idle_withClksrc]

theorem cycle_sameButClksrc (s : State) (b : Bool) : s.cycle.sameButClksrc (s.withClksrc b).cycle := by
  rw [cycle_eq, cycle_eq]; rfl

theorem execTick_withClksrc : (s.withClksrc b).execTick = s.execTick.withClksrc b := by
  rcases execTick_cases s with ⟨h, e⟩ | ⟨h, hx, e⟩ | ⟨h, hx, e⟩ <;> rw [e]
  · exact execTick_disabled (s := s.withClksrc b) h
  · exact execTick_emits (s := s.withClksrc b) h hx
  · exact execTick_counts (s := s.withClksrc b) h hx

/-- R165: both arms set `CLKSRC`. -/
theorem servoPhase_withClksrc : (s.withClksrc b).servoPhase = s.servoPhase := by
  unfold State.servoPhase
  cases h : s.phase <;> simp only [State.withClksrc, h] <;> rfl

theorem service_sameButClksrc (s : State) (b : Bool) : s.service.sameButClksrc (s.withClksrc b).service := by
  cases h : s.cfg.sink with
  | none => rw [service_none h, service_none (s := s.withClksrc b) h]; rfl
  | msClock => rw [service_msClock h, service_msClock (s := s.withClksrc b) h]; rfl
  | timedExec =>
    rw [service_timedExec h, service_timedExec (s := s.withClksrc b) h]
    have e : (s.withClksrc b).clearFlag.msTick.execTick = _ := execTick_withClksrc (s := s.clearFlag.msTick)
    rw [e]; rfl
  | servo =>
    rw [service_servo h, service_servo (s := s.withClksrc b) h]
    have e : (s.withClksrc b).clearFlag.servoPhase = _ := servoPhase_withClksrc (s := s.clearFlag)
    rw [e]; rfl

theorem effect_sameButClksrc (s : State) (b : Bool) (i : Instr) :
    (effect s i).sameButClksrc (effect (s.withClksrc b) i) := by
  cases i <;> rfl

theorem runWord_sameButClksrc {w : Word40} (h : runWord w s = .next t) (h' : runWord w (s.withClksrc b) = .next t') :
    t.sameButClksrc t' := by
  unfold runWord at h h'
  cases hd : decode w with
  | error e =>
    rw [hd] at h h'
    obtain rfl := Host.Outcome.next.inj h
    obtain rfl := Host.Outcome.next.inj h'
    rfl
  | ok i =>
    rw [hd] at h h'
    simp only [exec_eq] at h h'
    obtain rfl := Host.Outcome.next.inj h
    obtain rfl := Host.Outcome.next.inj h'
    have hc : (s.withClksrc b).cfg = s.cfg := rfl
    rw [hc]
    cases availableUnder s.cfg.sink i with
    | true => exact effect_sameButClksrc s b i
    | false => rfl

theorem take_sameButClksrc (h : take k s = .next t) (h' : take k (s.withClksrc b) = .next t') :
    t.sameButClksrc t' := by
  cases k with
  | reset => obtain rfl := Host.Outcome.next.inj (h.symm.trans h'); rfl
  | cycle =>
    obtain rfl := Host.Outcome.next.inj h
    obtain rfl := Host.Outcome.next.inj h'
    exact cycle_sameButClksrc (s.mark .cycle) b
  | service =>
    obtain rfl := Host.Outcome.next.inj h
    obtain rfl := Host.Outcome.next.inj h'
    exact service_sameButClksrc (s.mark .service) b
  | waitDone =>
    obtain rfl := Host.Outcome.next.inj h
    obtain rfl := Host.Outcome.next.inj h'
    rfl
  | cmd w => exact runWord_sameButClksrc (s := s.mark (.cmd w)) h h'

/-- Settles O39: the step is of the same kind, and is taken from states that differ in `CLKSRC` alone. -/
theorem nothingReadsTheClockSourceBit : Obligations.NothingReadsTheClockSourceBit := by
  intro s b
  have hs := schedule_withClksrc s b
  obtain ⟨t, ht⟩ := step_total s
  obtain ⟨t', ht'⟩ := step_total (s.withClksrc b)
  refine ⟨nextKind_of_schedule hs, t, t', ht, ht', ?_⟩
  exact take_sameButClksrc ht ((step_of_schedule hs).symm.trans ht')

end Sys2Proof.Machine

/-! O18, O19. `Reset` and the state after it (R42, R230). -/

namespace Sys2Proof.Machine

/-- Settles O18: the `Reset` at the head of the agenda is made. -/
theorem resetPutsEveryFieldAtItsResetValue : Obligations.ResetPutsEveryFieldAtItsResetValue := by
  rintro s rest (ha | ⟨ha, hi⟩)
  · exact step_of_schedule (schedule_resetAtOnce_head ha)
  · exact step_of_schedule (schedule_reset_head ha hi)

/-- Settles O19: the values of R42, and the outputs they give (R13). -/
theorem theResetStateHasTheResetValues : Obligations.TheResetStateHasTheResetValues :=
  ⟨rfl, rfl, rfl, rfl⟩

end Sys2Proof.Machine

/-! O44. A critical section (R56, R58): while `IE` is 0 nothing that the handler writes changes, `FLAG` and the timer
apart. -/

namespace Sys2Proof.Machine

variable {s t : State} {i : Instr} {ks : List StepKind}

/-- The fields of the sinks that the handler of some strap writes (R203). -/
def State.handled (s : State) : U64 × U32 × U32 × U32 × S32 × Phase × Bool := (s.ms, s.xcount, s.waveform)

/-- R56: only the commands that set `IE` write them as well. -/
theorem effect_handled (s : State) (h : setsIe i = false) : (effect s i).handled = s.handled := by
  cases i with
  | mscInit | texSetPeriod | srvInit => simp [setsIe] at h
  | _ => rfl

/-- R58: a step of a critical section, whatever the timer does. -/
theorem step_handled (h : step s = .next t) (hr : s.nextKind ≠ .reset) (hs : s.nextKind ≠ .service)
    (hc : ∀ i, s.nextKind.command = some i → setsIe i = false) : t.handled = s.handled := by
  rcases step_writes h with ⟨hk, -⟩ | ⟨hk, -⟩ | ⟨i, hi, -, ht⟩ | ⟨c, f, w, ht⟩
  · exact absurd hk hr
  · exact absurd hk hs
  · exact (ht.read State.handled).trans (effect_handled s (hc i hi))
  · exact ht.read State.handled

/-- R11 (a), R58: a run from `IE` = 0 that runs no command that sets it has no `Service`. -/
theorem Path.services_eq_zero (h : Path s ks t) (hie : s.ie = false) (hc : noCommand setsIe ks) : services ks = 0 := by
  refine List.count_eq_zero.mpr fun hm => ?_
  obtain ⟨k, hk, i, hi, -, hset⟩ := h.exists_runs_of_service (P := fun s => s.ie = false)
    (fun s hs => by simp [State.irq, hs]) (fun _ _ => step_of_ie_off) hie hm
  exact Bool.false_ne_true ((hc k hk i hi).symm.trans hset)

/-- R58: what a critical section keeps. -/
theorem Path.criticalSection (h : Path s ks t) (hie : s.ie = false) (hr : noReset ks) (hc : noCommand setsIe ks) :
    t.ie = false ∧ t.handled = s.handled := by
  induction h with
  | done => exact ⟨hie, rfl⟩
  | @cons s u t ks hs _ ih =>
    obtain ⟨hr1, hr2⟩ := noReset_cons.mp hr
    obtain ⟨hc1, hc2⟩ := List.forall_mem_cons.mp hc
    have hu : u.ie = false := (step_of_ie_off hie hs).resolve_right fun ⟨i, hi, _, hset⟩ =>
      Bool.false_ne_true ((hc1 i hi).symm.trans hset)
    obtain ⟨ht, hkeep⟩ := ih hu hr2 hc2
    have hirq : s.irq = false := by simp [State.irq, hie]
    exact ⟨ht, hkeep.trans (step_handled hs hr1 (nextKind_ne_service hirq) hc1)⟩

/-- Settles O44: no `Service` for want of `IE`, and every other step keeps `IE` and the handler's fields. -/
theorem aCriticalSectionHoldsOffService : Obligations.ACriticalSectionHoldsOffService := by
  intro s t ks hie hp hr hc
  obtain ⟨ht, hkeep⟩ := hp.criticalSection hie hr hc
  simp only [State.handled, State.waveform, Prod.mk.injEq] at hkeep
  obtain ⟨hms, hxcount, hon, hoff, hcur, hphase, hpin⟩ := hkeep
  exact ⟨hp.services_eq_zero hie hc, ht, hms, hxcount, hcur, hon, hoff, hphase, hpin⟩

end Sys2Proof.Machine

/-! O57, O58. Commands one after another (R54, R55, R80), from the effect of each. -/

namespace Sys2Proof.Machine

variable {s t : State} {i : Instr}

/-- R76 (3): a command whose unit the strap has. -/
theorem exec_of_available (ha : availableUnder s.cfg.sink i = true) : exec i s = .next (effect s i) :=
  (exec_eq i s).trans (congrArg _ (if_pos ha))

/-- R76 (2), R212: a command whose unit the strap lacks. -/
theorem exec_of_unavailable (ha : availableUnder s.cfg.sink i = false) :
    exec i s = .next { s with trace := s.answered .sinkUnavailable 0 } :=
  (exec_eq i s).trans (congrArg _ (if_neg (Bool.eq_false_iff.mp ha)))

theorem eq_effect_of_exec (h : exec i s = .next t) (ha : availableUnder s.cfg.sink i = true) : t = effect s i :=
  Host.Outcome.next.inj (h.symm.trans (exec_of_available ha))

/-- R55: the second of two effects finds every field as the first left it and makes the same observation. Not for
`TMR.FLAG`, which answers the flag it clears. -/
theorem effect_effect (s : State) (hflag : i ≠ .tmrFlag) :
    ∃ new : List Obs, (effect s i).trace = new ++ s.trace ∧
      effect (effect s i) i = { effect s i with trace := new ++ (effect s i).trace } := by
  cases i with
  | tmrFlag => exact absurd rfl hflag
  | mscWait d => exact ⟨[], rfl, rfl⟩
  | srvInit => exact ⟨[.response ⟨.ok, 90⟩, .event .pinHigh, .event .pinLow], rfl, rfl⟩
  | _ => exact ⟨[.response ⟨.ok, _⟩], rfl, rfl⟩

/-- Settles O57: the strap is the same the second time, and then so is the answer or the effect. -/
theorem commandsIssuedTwiceAreOnce : Obligations.CommandsIssuedTwiceAreOnce := by
  refine ⟨fun i s t hflag _ h => ?_, fun s t h => ?_⟩
  · cases ha : availableUnder s.cfg.sink i with
    | true =>
      obtain rfl := eq_effect_of_exec h ha
      obtain ⟨new, hnew, htwice⟩ := effect_effect s hflag
      obtain ⟨hcfg, -⟩ := effect_frame i s
      exact ⟨new, hnew, (exec_of_available (by rw [hcfg, ha])).trans (congrArg _ htwice)⟩
    | false =>
      obtain rfl := Host.Outcome.next.inj (h.symm.trans (exec_of_unavailable ha))
      exact ⟨[.response ⟨.sinkUnavailable, 0⟩], rfl, exec_of_unavailable ha⟩
  · obtain rfl := eq_effect_of_exec h rfl
    exact exec_of_available rfl

theorem clockPresent_iff {k : Sink} : clockPresent k = true ↔ k = .msClock ∨ k = .timedExec := by
  cases k <;> decide

theorem dispatcherPresent_iff {k : Sink} : dispatcherPresent k = true ↔ k = .timedExec := by cases k <;> decide

/-- Settles O58: the effects of each sequence, put together, are the effect of the command. -/
theorem compoundCommandsAreTheirSequences : Obligations.CompoundCommandsAreTheirSequences := by
  refine ⟨fun f s a b c d e t hk ha hb hc hd he ht => ?_, fun s a b t hk ha hb ht => ?_,
    fun m s a b t hk ha hb ht => ?_, fun s a b c t hk ht ha hb hc => ?_⟩
  · obtain rfl := eq_effect_of_exec ha rfl
    obtain rfl := eq_effect_of_exec hb rfl
    obtain rfl := eq_effect_of_exec hc rfl
    obtain rfl := eq_effect_of_exec hd rfl
    obtain rfl := eq_effect_of_exec he rfl
    obtain rfl := eq_effect_of_exec ht (clockPresent_iff.mpr hk)
    rfl
  · obtain rfl := eq_effect_of_exec ha rfl
    obtain rfl := eq_effect_of_exec hb rfl
    obtain rfl := eq_effect_of_exec ht (clockPresent_iff.mpr hk)
    rfl
  · obtain rfl := eq_effect_of_exec ha rfl
    obtain rfl := eq_effect_of_exec hb rfl
    obtain rfl := eq_effect_of_exec ht (dispatcherPresent_iff.mpr hk)
    have hm : trunc 32 (m : Int) = BitVec.ofNat 32 m := BitVec.ofInt_natCast 32 m
    simp only [effect, hm]
  · obtain rfl := eq_effect_of_exec ht (servoPresent_iff.mpr hk)
    obtain rfl := eq_effect_of_exec ha rfl
    obtain rfl := eq_effect_of_exec hb rfl
    obtain rfl := eq_effect_of_exec hc rfl
    rfl

end Sys2Proof.Machine

/-! O1, O2, O3, O4, O5. The command words (R70 to R79): a command is its opcode and what its format reads from `ARG`
(`withArg`), so the decoder is known from one lemma for words with an opcode of R75 and one for the others. -/

namespace Sys2Proof.Machine

/-- R71: the integer that a format reads from `ARG`; format `N` reads none. -/
def operandValue (a : U32) : Format → Int
  | .n => 0
  | .u => a.toNat
  | .s => a.toInt

/-- R71: the command with the opcode of `i` and the operand its format reads from `ARG`. -/
def withArg (a : U32) (i : Instr) : Instr := withOperand (operandValue a i.format) i

section
variable {w : Word40} {i : Instr}

/-- R79 after R71: the operand is written back as it was read. -/
theorem arg_withArg (a : U32) (i : Instr) : (withArg a i).arg = if i.format = .n then 0 else a := by
  cases i <;> simp [withArg, withOperand, operandValue, Instr.arg, Instr.format]

/-- R71: format `N` reads nothing. -/
theorem withArg_of_n (a : U32) (h : i.format = .n) : withArg a i = i := by
  cases i with
  | tmrSetPeriod | mscInit | mscWait | texSetPeriod | srvSetAbs | srvSetRel => cases h
  | _ => rfl

/-- R71: format `U` reads back a natural number below 2^32. -/
theorem toNat_ofNat_of_operandU {v : Nat} (h : operandU v = true) : (BitVec.ofNat 32 v).toNat = v := by
  rw [BitVec.toNat_ofNat, Nat.mod_eq_of_lt (of_decide_eq_true h)]

/-- R71: format `S` reads back an integer from -2^31 to 2^31 - 1. -/
theorem toInt_ofInt_of_operandS {v : Int} (h : operandS v = true) : (BitVec.ofInt 32 v).toInt = v := by
  simp only [operandS, Bool.and_eq_true, decide_eq_true_eq] at h
  exact trunc_toInt v h.1 h.2

/-- R71 after R79: an operand in range is read as it was written. -/
theorem withArg_arg (h : i.wellFormed = true) : withArg i.arg i = i := by
  cases i with
  | tmrSetPeriod v | mscInit v | mscWait v | texSetPeriod v =>
    exact congrArg _ (toNat_ofNat_of_operandU h)
  | srvSetAbs v | srvSetRel v => exact congrArg _ (toInt_ofInt_of_operandS h)
  | _ => rfl

/-- R75: a word with the opcode of a command is that command, with the operand its format reads. -/
theorem decode_of_opcode (h : opcodeOf w = i.opcode) : decode w = .ok (withArg (argOf w) i) := by
  unfold decode
  rw [h]
  cases i <;> rfl

/-- R75, R76, R78: a word is a command of its opcode, or the error names the opcode. -/
theorem decode_cases (w : Word40) :
    (∃ i : Instr, opcodeOf w = i.opcode ∧ decode w = .ok i) ∨ decode w = .error (.illegalOpcode (opcodeOf w)) := by
  unfold decode
  split
  case h_17 => exact .inr rfl
  all_goals exact .inl ⟨_, BitVec.eq_of_toNat_eq ‹_›, rfl⟩

/-- R75: a word that is a command has its opcode. -/
theorem opcode_of_decode (h : decode w = .ok i) : opcodeOf w = i.opcode := by
  obtain ⟨j, hop, hj⟩ | he := decode_cases w
  · obtain rfl := Except.ok.inj (h.symm.trans hj)
    exact hop
  · cases h.symm.trans he

/-- R76, R78: a word with the opcode of no command is illegal. -/
theorem decode_of_no_opcode (h : ∀ i : Instr, opcodeOf w ≠ i.opcode) :
    decode w = .error (.illegalOpcode (opcodeOf w)) := by
  obtain ⟨i, hop, _⟩ | he := decode_cases w
  · exact absurd hop (h i)
  · exact he

/-- R71, R75: a decoded command is what its format reads from `ARG`. -/
theorem withArg_of_decode (h : decode w = .ok i) : withArg (argOf w) i = i :=
  Except.ok.inj ((decode_of_opcode (opcode_of_decode h)).symm.trans h)

/-- R79: the assembler's word is the command it was made from. -/
theorem decode_encode (h : i.wellFormed = true) : decode (encode i) = .ok i := by
  rw [decode_of_opcode (opcodeOf_encode i), argOf_encode, withArg_arg h]

theorem decode_of_eq_encode (h : i.wellFormed = true) (hw : w = encode i) : decode w = .ok i := hw ▸ decode_encode h

/-- R71, R79: the word of a decoded command, `ARG` being 0 in format `N`. -/
theorem encode_of_decode (h : decode w = .ok i) :
    encode i = (opcodeOf w ++ (if i.format = .n then 0 else argOf w : U32) : Word40) := by
  unfold encode
  rw [opcode_of_decode h, ← arg_withArg, withArg_of_decode h]

/-- R75, R78: in formats `U` and `S` the word of a decoded command is the word itself. -/
theorem encode_of_decode_of_operand (h : decode w = .ok i) (hf : i.format ≠ .n) : encode i = w := by
  rw [encode_of_decode h, if_neg hf, opcodeOf_append_argOf]

/-- R75: the sixteen opcodes, in the order of the mnemonics. -/
theorem opcodes_eq_mnemonics :
    [0x00, 0x01, 0x02, 0x03, 0x04, 0x05, 0x06, 0x07, 0x08, 0x10, 0x11, 0x12, 0x20, 0x30, 0x31, 0x32] =
      mnemonics.map fun m => m.2.opcode.toNat := rfl

/-- R75: the table has the opcode of every command. -/
theorem opcode_mem_mnemonics (i : Instr) : i.opcode.toNat ∈ mnemonics.map fun m => m.2.opcode.toNat := by
  rw [← opcodes_eq_mnemonics]
  cases i <;> simp [Instr.opcode]

end

/-- Settles O1: the opcode of the word selects the command, and its operand is read as it was written. -/
theorem decodeOfEncodeIsTheCommand : Obligations.DecodeOfEncodeIsTheCommand := fun _ h => decode_encode h

/-- Settles O2: a decoded command has the opcode of its word, and writes the operand back as it was read. -/
theorem encodeOfDecodeIsTheWord : Obligations.EncodeOfDecodeIsTheWord := by
  refine fun w i h => ⟨decode_wellFormed h, ?_⟩
  split_ifs with hf
  · rw [encode_of_decode h, if_pos hf]
  · exact encode_of_decode_of_operand h hf

/-- Settles O3: the sixteen numbers are the opcodes of the sixteen commands. -/
theorem sixteenOpcodesAndNoOther : Obligations.SixteenOpcodesAndNoOther := by
  intro w
  rw [opcodes_eq_mnemonics]
  constructor
  · intro h
    obtain ⟨⟨_, i⟩, _, hi⟩ := List.mem_map.mp h
    exact ⟨_, decode_of_opcode (BitVec.eq_of_toNat_eq hi.symm)⟩
  · intro h
    exact decode_of_no_opcode fun i hi => h (hi ▸ opcode_mem_mnemonics i)

/-- Settles O4: the opcode alone selects a command of format `N`; in the other formats both words are its encoding. -/
theorem formatNIgnoresTheOperandBits : Obligations.FormatNIgnoresTheOperandBits := by
  refine fun w w' i hop h => ⟨fun hf => ?_, fun hf h' => ?_⟩
  · rw [decode_of_opcode (hop.symm.trans (opcode_of_decode h)), withArg_of_n _ hf]
  · rw [← encode_of_decode_of_operand h hf, ← encode_of_decode_of_operand h' hf]

/-- Settles O5: each word is the encoding of the command beside it. -/
theorem wordsWrittenInTheSpecDecode : Obligations.WordsWrittenInTheSpecDecode := by
  refine ⟨?_, ?_, ?_, ?_, ?_, ?_, ?_, ?_⟩ <;> exact decode_of_eq_encode (by decide) (by decide)

end Sys2Proof.Machine

/-! O59. The assembler (R79): whatever the text, it encodes only well-formed commands. -/

namespace Sys2Proof.Machine

/-- R71, R78: a command of format `N` has no operand that could be out of range: its word is the command. -/
theorem wellFormed_of_n {i : Instr} (h : i.format = .n) : i.wellFormed = true :=
  decode_wellFormed ((decode_of_opcode (opcodeOf_encode i)).trans (congrArg _ (withArg_of_n _ h)))

/-- R79: the assembler makes no command whose operand is out of range. -/
theorem wellFormed_of_commandOf {name : Line} {operands : List Line} {i : Instr} (h : commandOf name operands = .ok i) :
    i.wellFormed = true := by
  unfold commandOf at h
  split at h
  · cases h
  · split at h
    case h_1 => cases h; exact wellFormed_of_n ‹_›
    case h_2 | h_3 =>
      split at h
      · cases h
      · split at h
        · cases h; assumption
        · cases h
    all_goals cases h

/-- R79: the word of a line is the encoding of the command its words spell. -/
theorem command_of_assemble {l : Line} {w : Word40} (h : assemble l = .ok (some w)) :
    ∃ name operands i, commandOf name operands = .ok i ∧ w = encode i := by
  unfold assemble at h
  split at h
  · cases h
  · split at h
    · cases h
      exact ⟨_, _, _, ‹_›, rfl⟩
    · cases h

/-- Settles O59: every word comes from a command in range; the example lines are evaluated. -/
theorem assembledLinesAreEncodedCommands : Obligations.AssembledLinesAreEncodedCommands := by
  refine ⟨fun l w h => ?_, ?examples⟩
  · obtain ⟨_, _, i, hi, rfl⟩ := command_of_assemble h
    have hwf := wellFormed_of_commandOf hi
    exact ⟨i, hwf, rfl, decode_encode hwf⟩
  case examples => decide

end Sys2Proof.Machine

/-! O25, O27. `TMR.CLRFLAG`, `TMR.FLAG` and `MSC.NOW` (R108, R109, R132), from the effect of each. -/

namespace Sys2Proof.Machine

/-- Settles O25: `TMR.FLAG` answers the flag it clears. -/
theorem tmrFlagCommandsClearTheFlag : Obligations.TmrFlagCommandsClearTheFlag := by
  refine ⟨fun w h => decode_of_opcode (i := .tmrClrFlag) h, fun w h => decode_of_opcode (i := .tmrFlag) h,
    fun s => ⟨exec_of_available rfl, fun hf => ?_, fun hf => ?_⟩⟩
  · have hbit : zext64 s.flagBit = 1 := by simp [State.flagBit, hf, zext64]
    rw [exec_of_available rfl, effect, hbit]
  · have hbit : zext64 s.flagBit = 0 := by simp [State.flagBit, hf, zext64]
    rw [exec_of_available rfl, effect, hbit]

/-- Settles O27: both straps have the clock. -/
theorem mscNowAnswersMsAndEnablesTheInterrupt : Obligations.MscNowAnswersMsAndEnablesTheInterrupt :=
  ⟨fun _ h => decode_of_opcode (i := .mscNow) h, fun _ hk => exec_of_available (clockPresent_iff.mpr hk)⟩

end Sys2Proof.Machine

/-! SUPPORT. What is said of a run by the number of its `Cycle` steps. -/

namespace Sys2Proof.Machine

variable {s t : State} {ks : List StepKind}

/-- What holds before a run and is kept by every step whose kind is allowed, a `Cycle` counting one, holds after it
for the number of its `Cycle` steps. -/
theorem Path.counts {P : Nat → State → Prop} {ok : StepKind → Prop} {n : Nat}
    (hstep : ∀ n s t, P n s → ok s.nextKind → step s = .next t → P (n + cycles [s.nextKind]) t) (h : Path s ks t)
    (hk : ∀ k ∈ ks, ok k) (hs : P n s) : P (n + cycles ks) t := by
  induction h generalizing n with
  | done => exact hs
  | cons h1 _ ih =>
    obtain ⟨hk1, hk2⟩ := List.forall_mem_cons.mp hk
    rw [cycles_cons, ← Nat.add_assoc]
    exact ih hk2 (hstep _ _ _ hs hk1 h1)

/-- R6, R37: a run keeps the configuration. -/
theorem Path.cfg (h : Path s ks t) : t.cfg = s.cfg :=
  h.keeps (P := fun u => u.cfg = s.cfg) (fun _ _ hu hs => (step_cfg hs).trans hu) rfl

end Sys2Proof.Machine

/-! SUPPORT. The timer's three fields `RELOAD`, `COUNT`, `RUN` (R21 to R23): which steps but a `Cycle` keep them,
and the invariant of the period law, `OnPeriod n r`, after `n` `Cycle` steps of a running timer. -/

namespace Sys2Proof.Machine

variable {s t : State} {i : Instr} {ks : List StepKind} {n : Nat} {r : U24}

/-- `RELOAD`, `COUNT` and `RUN`. -/
def State.timer (s : State) : U24 × U24 × Bool := (s.reload, s.count, s.run)

/-- R101, R111: no other command stops or reprograms a running timer; a start of one leaves it alone. -/
theorem effect_timer (hrun : s.run = true) (hd : disturbsPeriod i = false) : (effect s i).timer = s.timer := by
  cases i with
  | tmrStart => simp [effect, State.timer, hrun]
  | tmrStop | tmrSetPeriod | mscInit | srvInit => simp [disturbsPeriod] at hd
  | _ => rfl

/-- R111, R203: only the servo's handler restarts the timer. -/
theorem service_timer (hk : s.cfg.sink ≠ .servo) : s.service.timer = s.timer := by
  rcases service_cases s with ⟨-, h⟩ | ⟨-, h⟩ | ⟨-, x, l, h, -⟩ | ⟨hs, -⟩ | ⟨hs, -⟩
  · rw [h]; rfl
  · rw [h]; rfl
  · rw [h]; rfl
  · exact absurd hs hk
  · exact absurd hs hk

/-- R111: a step of a running timer that neither stops nor reprograms it is a `Cycle` or leaves its fields alone. -/
theorem step_timer (h : step s = .next t) (hrun : s.run = true) (hr : s.nextKind ≠ .reset)
    (hk : s.nextKind = .service → s.cfg.sink ≠ .servo)
    (hc : ∀ i, s.nextKind.command = some i → disturbsPeriod i = false) :
    (s.nextKind = .cycle ∧ s.cycle.sameFields t) ∨ (s.nextKind ≠ .cycle ∧ t.timer = s.timer) := by
  rcases step_fields h with ⟨hn, -⟩ | ⟨-, hn, ht⟩ | hcycle | ⟨hn, ht⟩ | ⟨⟨w, hn⟩, ht⟩ | ⟨i, hi, -, ht⟩
  · exact absurd hn hr
  · exact .inr ⟨by simp [hn], (ht.read State.timer).trans (service_timer (hk hn))⟩
  · exact .inl hcycle
  · exact .inr ⟨by simp [hn], ht.read State.timer⟩
  · exact .inr ⟨by simp [hn], ht.read State.timer⟩
  · exact .inr ⟨fun hn => by simp [hn, StepKind.command] at hi,
      (ht.read State.timer).trans (effect_timer hrun (hc i hi))⟩

/-- R111: after `n` `Cycle` steps from a restart with `RELOAD = r`, `COUNT` is what is left to the next multiple of
the period. -/
structure OnPeriod (n : Nat) (r : U24) (s : State) : Prop where
  run : s.run = true
  reload : s.reload = r
  countLe : s.count.toNat ≤ r.toNat
  multiple : periodOf r ∣ n + s.count.toNat

theorem OnPeriod.zero (hrun : s.run = true) (hcount : s.count = 0) : OnPeriod 0 s.reload s where
  run := hrun
  reload := rfl
  countLe := by simp [hcount]
  multiple := by simp [hcount]

theorem OnPeriod.congr (h : OnPeriod n r s) (ht : t.timer = s.timer) : OnPeriod n r t := by
  simp only [State.timer, Prod.mk.injEq] at ht
  obtain ⟨hreload, hcount, hrun⟩ := ht
  exact ⟨hrun ▸ h.run, hreload ▸ h.reload, hcount ▸ h.countLe, hcount ▸ h.multiple⟩

/-- R100: a reload adds a period to what is left, any other `Cycle` goes one down. -/
theorem OnPeriod.cycle (h : OnPeriod n r s) : OnPeriod (n + 1) r s.cycle := by
  have hnext := nextCount_toNat s
  have hle := h.countLe
  rw [cycle_running h.run]
  by_cases h0 : s.count.toNat = 0
  · rw [if_pos h0, h.reload] at hnext
    have hn : periodOf r ∣ n := by simpa [h0] using h.multiple
    have hsum : n + 1 + s.nextCount.toNat = n + periodOf r := by rw [periodOf]; omega
    exact ⟨h.run, h.reload, hnext.le, hsum ▸ Nat.dvd_add_self_right.mpr hn⟩
  · rw [if_neg h0] at hnext
    have hdown : s.nextCount.toNat ≤ r.toNat := by omega
    have hsum : n + 1 + s.nextCount.toNat = n + s.count.toNat := by omega
    exact ⟨h.run, h.reload, hdown, hsum ▸ h.multiple⟩

/-- R111: `COUNT` is 0 at the multiples of the period. -/
theorem OnPeriod.count_eq_zero_iff (h : OnPeriod n r s) : s.count = 0 ↔ n % periodOf r = 0 := by
  have hzero : s.count = 0 ↔ s.count.toNat = 0 := by simp [← BitVec.toNat_inj]
  rw [hzero, ← Nat.dvd_iff_mod_eq_zero]
  refine ⟨fun h0 => by simpa [h0] using h.multiple, fun hn => ?_⟩
  exact Nat.eq_zero_of_dvd_of_lt ((Nat.dvd_add_right hn).mp h.multiple) (Nat.lt_succ_of_le h.countLe)

/-- R111: the count after `n + 1` `Cycle` steps. -/
theorem OnPeriod.count_eq (h : OnPeriod (n + 1) r s) : s.count.toNat = r.toNat - n % (r.toNat + 1) := by
  obtain ⟨q, hq⟩ := h.multiple
  have hle := h.countLe
  have hlt : r.toNat - s.count.toNat < r.toNat + 1 := by omega
  have hn : n + (r.toNat + 1) = (r.toNat - s.count.toNat) + (r.toNat + 1) * q := by rw [periodOf] at hq; omega
  rw [← Nat.add_mod_right, hn, Nat.add_mul_mod_self_left, Nat.mod_eq_of_lt hlt]
  omega

/-- R100, R111: `Cycle` number `n + 1` sets the flag if its number is a multiple of the period. -/
theorem OnPeriod.cycle_flag (h : OnPeriod n r s) :
    s.cycle.flag = (s.flag || decide ((n + 1) % periodOf r = 0)) := by
  have hzero := h.cycle.count_eq_zero_iff
  rw [cycle_running h.run] at hzero ⊢
  simp only [hzero]

/-- R111: the steps of the law keep `OnPeriod`. -/
theorem OnPeriod.step (h : OnPeriod n r s) (hs : step s = .next t) (hr : s.nextKind ≠ .reset)
    (hk : s.nextKind = .service → s.cfg.sink ≠ .servo)
    (hc : ∀ i, s.nextKind.command = some i → disturbsPeriod i = false) :
    OnPeriod (n + cycles [s.nextKind]) r t := by
  rcases step_timer hs h.run hr hk hc with ⟨hn, ht⟩ | ⟨hn, ht⟩
  · rw [hn, cycles_cycle]
    exact h.cycle.congr (ht.read State.timer)
  · rw [cycles_eq_zero hn, Nat.add_zero]
    exact h.congr ht

theorem OnPeriod.path (h : OnPeriod n r s) (hp : Path s ks t) (hk : s.cfg.sink = .servo → services ks = 0)
    (hr : noReset ks) (hc : noCommand disturbsPeriod ks) : OnPeriod (n + cycles ks) r t := by
  have hsteps : ∀ k ∈ ks, k ≠ .reset ∧ (k = .service → s.cfg.sink ≠ .servo) ∧
      ∀ i, k.command = some i → disturbsPeriod i = false := fun k hm =>
    ⟨ne_of_mem_of_not_mem hm hr, fun hn hsink => List.count_eq_zero.mp (hk hsink) (hn ▸ hm), hc k hm⟩
  refine (hp.counts (P := fun m u => u.cfg = s.cfg ∧ OnPeriod m r u) ?_ hsteps ⟨rfl, h⟩).2
  rintro m u v ⟨hcfg, hu⟩ ⟨hr, hk, hc⟩ hs
  exact ⟨(step_cfg hs).trans hcfg, hu.step hs hr (hcfg ▸ hk) hc⟩

end Sys2Proof.Machine

/-! O48. The period law (R111), from the invariant `OnPeriod`. -/

namespace Sys2Proof.Machine

/-- Settles O48: the run keeps `OnPeriod`, which gives the count, and with it the flag of the next `Cycle`. -/
theorem thePeriodLaw : Obligations.ThePeriodLaw := by
  intro s u ks hrun hcount hp hk hr hc
  have h := (OnPeriod.zero hrun hcount).path hp hk hr hc
  rw [Nat.zero_add] at h
  refine ⟨h.run, h.reload, fun hn => h.count_eq_zero_iff.mpr (by rw [hn, Nat.zero_mod]), fun hn => ?_,
    fun t ht => ⟨fun hservice hsink => ?_, fun hcycle => ?_⟩⟩
  · obtain ⟨m, hm⟩ := Nat.exists_eq_add_of_le' hn
    rw [hm] at h ⊢
    exact h.count_eq
  · obtain ⟨-, hkeep⟩ := (step_timer ht h.run (by simp [hservice]) (fun _ => hp.cfg ▸ hsink)
      (by simp [hservice, StepKind.command])).resolve_left (by simp [hservice])
    simp only [State.timer, Prod.mk.injEq] at hkeep
    obtain ⟨hreload, hcount, hrun⟩ := hkeep
    exact ⟨hcount, hreload, hrun⟩
  · obtain ⟨-, hfields⟩ := (step_timer ht h.run (by simp [hcycle]) (by simp [hcycle])
      (by simp [hcycle, StepKind.command])).resolve_right (by simp [hcycle])
    exact (hfields.read State.flag).trans h.cycle_flag

end Sys2Proof.Machine

/-! O51. The millisecond clock left alone (R111, R131, R201, R235): the invariant `Clock n r`, after `n` `Cycle`
steps. -/

namespace Sys2Proof.Machine

variable {s t : State} {i : Instr} {ks : List StepKind} {n : Nat} {r : U24}

/-- R26, R28: the ticks of the timer, those in `MS` and the one that may be pending. -/
def State.ticks (s : State) : Nat := s.ms.toNat + s.flagBit

/-- R131: what every step of the run keeps. -/
structure Clock (n : Nat) (r : U24) (s : State) : Prop where
  sink : clockPresent s.cfg.sink = true
  ie : s.ie = true
  period : OnPeriod n r s
  ticks : s.ticks ≡ n / periodOf r [MOD 2 ^ 64]

/-- R111: the commands that may not be issued: they stop or reprogram the timer, clear `FLAG` or clear `IE`. -/
def disturbsClock (i : Instr) : Bool := disturbsPeriod i || clearsFlag i || decide (i = .tmrIrqOff)

theorem disturbsClock_eq_false_iff :
    disturbsClock i = false ↔ disturbsPeriod i = false ∧ clearsFlag i = false ∧ i ≠ .tmrIrqOff := by
  simp [disturbsClock, and_assoc]

/-- R28: the command that writes `MS` restarts the timer. -/
theorem initsClock_of_disturbsPeriod (h : disturbsPeriod i = false) : initsClock i = false := by
  cases i with
  | mscInit => simp [disturbsPeriod] at h
  | _ => rfl

/-- R24, R26, R28: a command that does not disturb the clock keeps its ticks and `IE`. -/
theorem effect_clock (hie : s.ie = true) (hd : disturbsClock i = false) :
    (effect s i).ie = true ∧ (effect s i).ticks = s.ticks := by
  obtain ⟨hperiod, hflag, hoff⟩ := disturbsClock_eq_false_iff.mp hd
  refine ⟨by simp [effect_ie, hie, hoff], ?_⟩
  rw [State.ticks, State.ticks, State.flagBit, State.flagBit, effect_flag, effect_ms, hflag,
    initsClock_of_disturbsPeriod hperiod]
  simp

/-- R130, R203: the clock's `Service` moves the pending tick to `MS`. -/
theorem service_ticks (hk : clockPresent s.cfg.sink = true) (hf : s.flag = true) :
    s.service.ticks ≡ s.ticks [MOD 2 ^ 64] := by
  have hms := trunc_toNat 64 ((s.ms.toNat : Int) + 1)
  have hservice : s.service.ms = trunc 64 ((s.ms.toNat : Int) + 1) := by
    rcases service_cases s with ⟨h, -⟩ | ⟨-, h⟩ | ⟨-, x, l, h, -⟩ | ⟨h, -⟩ | ⟨h, -⟩
    · simp [h, clockPresent] at hk
    · rw [h]
    · rw [h]
    · simp [h, clockPresent] at hk
    · simp [h, clockPresent] at hk
  simp only [State.ticks, State.flagBit, service_flag, hservice, hf, if_true, Bool.false_eq_true, if_false, Nat.ModEq]
  omega

/-- R100, R111: `Cycle` number `n + 1` adds a tick if its number is a multiple of the period. No tick is lost: none
is pending, since a pending one is serviced first (R235). -/
theorem Clock.cycle (h : Clock n r s) (hf : s.flag = false) : Clock (n + 1) r s.cycle where
  sink := cycle_cfg s ▸ h.sink
  ie := by rw [cycle_eq]; exact h.ie
  period := h.period.cycle
  ticks := by
    have hticks : s.cycle.ticks = s.ticks + if periodOf r ∣ n + 1 then 1 else 0 := by
      simp [State.ticks, State.flagBit, cycle_ms, h.period.cycle_flag, hf, Nat.dvd_iff_mod_eq_zero]
    rw [hticks, Nat.succ_div]
    exact h.ticks.add_right _

/-- R111, R131: every step of the run keeps `Clock`. -/
theorem Clock.step (h : Clock n r s) (hs : step s = .next t) (hr : s.nextKind ≠ .reset)
    (hc : ∀ i, s.nextKind.command = some i → disturbsClock i = false) : Clock (n + cycles [s.nextKind]) r t := by
  have hsink : s.cfg.sink ≠ .servo := fun hsink => by simpa [hsink, clockPresent] using h.sink
  have hperiod := h.period.step hs hr (fun _ => hsink) fun i hi => (disturbsClock_eq_false_iff.mp (hc i hi)).1
  have keep (hn : s.nextKind ≠ .cycle) (hie : t.ie = s.ie) (ht : t.ticks ≡ s.ticks [MOD 2 ^ 64]) :
      Clock (n + cycles [s.nextKind]) r t := by
    rw [cycles_eq_zero hn] at hperiod ⊢
    exact ⟨step_cfg hs ▸ h.sink, hie ▸ h.ie, hperiod, ht.trans h.ticks⟩
  rcases step_fields hs with ⟨hn, -⟩ | ⟨hi, hn, ht⟩ | ⟨hn, ht⟩ | ⟨hn, ht⟩ | ⟨⟨w, hn⟩, ht⟩ | ⟨i, hi, -, ht⟩
  · exact absurd hn hr
  · have hticks := service_ticks h.sink (irq_iff.mp hi).1
    exact keep (by simp [hn]) ((ht.read State.ie).trans (service_frame s).1) (ht.read State.ticks ▸ hticks)
  · have hf : s.flag = false := by simpa [State.irq, h.ie] using (schedule_cycle hn).1
    have hcycle := h.cycle hf
    rw [hn, cycles_cycle] at hperiod ⊢
    exact ⟨step_cfg hs ▸ h.sink, (ht.read State.ie).trans hcycle.ie, hperiod, ht.read State.ticks ▸ hcycle.ticks⟩
  · exact keep (by simp [hn]) (ht.read State.ie) (congrArg (· % _) (ht.read State.ticks))
  · exact keep (by simp [hn]) (ht.read State.ie) (congrArg (· % _) (ht.read State.ticks))
  · obtain ⟨hie, hticks⟩ := effect_clock h.ie (hc i hi)
    exact keep (fun hn => by simp [hn, StepKind.command] at hi) ((ht.read State.ie).trans (hie.trans h.ie.symm))
      (congrArg (· % _) ((ht.read State.ticks).trans hticks))

theorem Clock.path (h : Clock n r s) (hp : Path s ks t) (hr : noReset ks) (hc : noCommand disturbsClock ks) :
    Clock (n + cycles ks) r t := by
  have hsteps : ∀ k ∈ ks, k ≠ .reset ∧ ∀ i, k.command = some i → disturbsClock i = false := fun k hm =>
    ⟨ne_of_mem_of_not_mem hm hr, hc k hm⟩
  exact hp.counts (P := fun m u => Clock m r u) (fun _ _ _ hu ⟨hr, hc⟩ hs => hu.step hs hr hc) hsteps h

/-- R131: `MSC.INIT` restarts the clock at 0. -/
theorem Clock.of_mscInit (f : Nat) (hk : clockPresent s.cfg.sink = true) :
    Clock 0 (reloadFor (f / 1000)) (effect s (.mscInit f)) where
  sink := hk
  ie := rfl
  period := OnPeriod.zero (s := effect s (.mscInit f)) rfl rfl
  ticks := by rw [Nat.zero_div]; rfl

/-- Settles O51: `Clock` holds after `MSC.INIT` and is kept by every step; the period is `f div 1000`. -/
theorem millisecondsAreCyclesOverThePeriod : Obligations.MillisecondsAreCyclesOverThePeriod := by
  intro f s0 s t ks hlo hhi hk hinit hp hr hc
  have hk := clockPresent_iff.mpr hk
  obtain rfl := eq_effect_of_exec hinit hk
  have h := ((Clock.of_mscInit f hk).path hp hr hc).ticks
  rwa [Nat.zero_add, periodOf_reloadFor (by omega)] at h

end Sys2Proof.Machine

/-! O12. `Cycle` (R100), whoever makes it. -/

namespace Sys2Proof.Machine

/-- Settles O12: scheduling changes the environment alone, and a `Cycle` of a running timer counts. -/
theorem cycleCountsAndRaisesTheFlag : Obligations.CycleCountsAndRaisesTheFlag := by
  refine ⟨fun s rest ha hi => nextKind_of_schedule (schedule_cycle_head ha hi), fun s hk => ?_⟩
  obtain ⟨hi, a, d, p, hs, hmade, hheld⟩ := schedule_cycle hk
  have hstep := step_of_schedule hs
  refine ⟨hi, a, d, p, hmade, hheld, fun hrun => ?_, fun hrun => ⟨s.nextCount, ?_, ?_⟩⟩
  · exact hstep.trans (congrArg _ (cycle_stopped (s := (s.withEnv a d p).mark .cycle) hrun))
  · exact nextCount_toNat s
  · exact hstep.trans (congrArg _ (cycle_running (s := (s.withEnv a d p).mark .cycle) hrun))

end Sys2Proof.Machine

/-! O16, O17. The servo's `Service` (R110, R160, R165, R203), by `PHASE`. -/

namespace Sys2Proof.Machine

variable {s : State}

/-- R165, first arm. -/
theorem service_highPending (hk : s.cfg.sink = .servo) (hp : s.phase = .highPending) :
    s.service = s.clearFlag.beginHigh := by
  simp [service_servo hk, State.servoPhase, hp]

/-- R165, second arm. -/
theorem service_lowPending (hk : s.cfg.sink = .servo) (hp : s.phase = .lowPending) :
    s.service = s.clearFlag.beginLow := by
  simp [service_servo hk, State.servoPhase, hp]

/-- Settles O16: the `Service` is forced, and the widths are `Pulse` of the pending angle. -/
theorem servoServiceBeginsTheHighPulse : Obligations.ServoServiceBeginsTheHighPulse := by
  intro s hf hie ha hk hp
  obtain ⟨-, hstep⟩ := step_service (irq_iff.mpr ⟨hf, hie⟩) ha
  exact ⟨_, _, _, pulse_on_toNat s.cfg s.newPos, pulse_off_toNat s.cfg s.newPos, reloadFor_toNat _,
    hstep.trans (congrArg _ (service_highPending hk hp))⟩

/-- Settles O17: the `Service` is forced, and the timer restarts for the width latched before. -/
theorem servoServiceBeginsTheLowRemainder : Obligations.ServoServiceBeginsTheLowRemainder := by
  intro s hf hie ha hk hp
  obtain ⟨-, hstep⟩ := step_service (irq_iff.mpr ⟨hf, hie⟩) ha
  exact ⟨_, reloadFor_toNat _, hstep.trans (congrArg _ (service_lowPending hk hp))⟩

end Sys2Proof.Machine

/-! O49, O20, O21, O22, O23, O24. The timer's commands (R101 to R107, R112), from the effect of each. -/

namespace Sys2Proof.Machine

/-- R104: the period answered is not truncated. -/
theorem zext64_periodOf_toNat (r : U24) : (zext64 (periodOf r)).toNat = r.toNat + 1 := by
  have := r.isLt
  exact zext64_toNat _ (by rw [periodOf]; omega)

/-- Settles O49: the answer is the stored reload value plus one. -/
theorem thePeriodRoundTrip : Obligations.ThePeriodRoundTrip := by
  intro p s
  have hanswer : ((zext64 (periodOf (reloadFor p))).toNat : Int) = ((p : Int) - 1) % 2 ^ 24 + 1 := by
    rw [zext64_periodOf_toNat, Nat.cast_succ, reloadFor_toNat]
  exact ⟨_, zext64 (periodOf (reloadFor p)), exec_of_available rfl, exec_of_available rfl, hanswer, by omega,
    by omega, by omega⟩

/-- Settles O20: a running timer keeps its count. -/
theorem tmrStartRunsAndClearsAStoppedCount : Obligations.TmrStartRunsAndClearsAStoppedCount :=
  ⟨fun _ h => decode_of_opcode (i := .tmrStart) h, fun _ => exec_of_available rfl⟩

/-- Settles O21: only `RUN` is written. -/
theorem tmrStopClearsRunAndNothingElse : Obligations.TmrStopClearsRunAndNothingElse :=
  ⟨fun _ h => decode_of_opcode (i := .tmrStop) h, fun _ => exec_of_available rfl⟩

/-- Settles O22: the operand is `ARG` whole, and `RELOAD` is `reloadFor` of it. -/
theorem tmrSetPeriodStoresThePeriodLessOne : Obligations.TmrSetPeriodStoresThePeriodLessOne := by
  refine ⟨fun w h => ?_, fun p s => ⟨_, reloadFor_toNat p, exec_of_available rfl⟩⟩
  exact decode_of_opcode (i := .tmrSetPeriod 0) h

/-- Settles O23: both answers fit 64 bits. -/
theorem tmrReadsAnswerPeriodAndCount : Obligations.TmrReadsAnswerPeriodAndCount := by
  refine ⟨fun w h => decode_of_opcode (i := .tmrGetPeriod) h, fun w h => decode_of_opcode (i := .tmrGetCount) h,
    fun s => ⟨⟨_, zext64_periodOf_toNat s.reload, exec_of_available rfl⟩, ⟨_, ?_, exec_of_available rfl⟩⟩⟩
  have := s.count.isLt
  exact zext64_toNat _ (by omega)

/-- Settles O24: only `IE` is written. -/
theorem tmrIrqOnAndOffWriteTheGate : Obligations.TmrIrqOnAndOffWriteTheGate :=
  ⟨fun _ h => decode_of_opcode (i := .tmrIrqOn) h, fun _ h => decode_of_opcode (i := .tmrIrqOff) h,
    fun _ => ⟨exec_of_available rfl, exec_of_available rfl⟩⟩

end Sys2Proof.Machine

/-! O26, O28. `MSC.INIT` and `MSC.WAIT` (R131, R133), from the effect of each. -/

namespace Sys2Proof.Machine

/-- R15: a natural number truncated. -/
theorem trunc_natCast_toNat (n v : Nat) : (trunc n (v : Int)).toNat = v % 2 ^ n := by
  rw [trunc, BitVec.ofInt_natCast, BitVec.toNat_ofNat]

/-- Settles O26: `RELOAD` is `reloadFor` of `f div 1000`. -/
theorem mscInitRestartsTheClock : Obligations.MscInitRestartsTheClock := by
  refine ⟨fun w h => ?_, fun f s hk => ⟨_, reloadFor_toNat _, exec_of_available (clockPresent_iff.mpr hk)⟩⟩
  exact decode_of_opcode (i := .mscInit 0) h

/-- Settles O28: `DEADLINE` is the truncated sum, and nothing is answered. -/
theorem mscWaitHoldsThePortWithoutAnAnswer : Obligations.MscWaitHoldsThePortWithoutAnAnswer := by
  refine ⟨fun w h => ?_, fun d s hk =>
    ⟨_, trunc_natCast_toNat 64 (s.ms.toNat + d), exec_of_available (clockPresent_iff.mpr hk)⟩⟩
  exact decode_of_opcode (i := .mscWait 0) h

end Sys2Proof.Machine

/-! O14, O15. `Service` under `NONE`, `MSCLOCK` and `TIMEDEXEC` (R130, R150, R203), by the strap's arm. -/

namespace Sys2Proof.Machine

variable {s : State}

/-- R130: `MsTick` as a number. -/
theorem msTick_toNat (s : State) : s.msTick.ms.toNat = (s.ms.toNat + 1) % 2 ^ 64 :=
  trunc_natCast_toNat 64 (s.ms.toNat + 1)

/-- Settles O14: the `Service` is forced, and its arm is one record update. -/
theorem serviceUnderNoneAndMsClock : Obligations.ServiceUnderNoneAndMsClock := by
  intro s hf hie ha
  obtain ⟨-, hstep⟩ := step_service (irq_iff.mpr ⟨hf, hie⟩) ha
  exact ⟨fun hk => hstep.trans (congrArg _ (service_none hk)),
    fun hk => ⟨_, msTick_toNat s, hstep.trans (congrArg _ (service_msClock hk))⟩⟩

/-- Settles O15: the `Service` is forced, and `ExecTick` follows `MsTick`; by R40 (a) the count does not wrap. -/
theorem serviceUnderTimedExec : Obligations.ServiceUnderTimedExec := by
  intro s hf hie ha hk hinv
  obtain ⟨-, hstep⟩ := step_service (irq_iff.mpr ⟨hf, hie⟩) ha
  rw [service_timedExec (s := s.mark .service) hk] at hstep
  have hcount (h : s.xperiod.toNat > 0) : (s.xcount + 1).toNat = s.xcount.toNat + 1 := by
    have := hinv h
    bv_omega
  have henabled (h : s.xperiod.toNat > 0) : s.xperiod ≠ 0 := fun h0 => by simp [h0] at h
  refine ⟨_, msTick_toNat s, fun h0 => ?_, fun hpos heq => ?_, fun hpos hne => ⟨_, hcount hpos, ?_⟩⟩
  · have hx : s.xperiod = 0 := BitVec.eq_of_toNat_eq h0
    exact hstep.trans (congrArg _ (execTick_disabled (s := (s.mark .service).clearFlag.msTick) hx))
  · have hx : s.xcount + 1 = s.xperiod := BitVec.eq_of_toNat_eq ((hcount hpos).trans heq)
    exact hstep.trans (congrArg _ (execTick_emits (s := (s.mark .service).clearFlag.msTick) (henabled hpos) hx))
  · have hx : s.xcount + 1 ≠ s.xperiod := fun h => hne ((hcount hpos).symm.trans (congrArg _ h))
    exact hstep.trans (congrArg _ (execTick_counts (s := (s.mark .service).clearFlag.msTick) (henabled hpos) hx))

end Sys2Proof.Machine

/-! O50. The millisecond clock counts the `Service` steps (R130, R136). -/

namespace Sys2Proof.Machine

variable {s t : State} {ks : List StepKind}

/-- R150: the dispatcher does not write `MS`. -/
theorem execTick_ms (s : State) : s.execTick.ms = s.ms := by
  rcases execTick_cases s with ⟨-, e⟩ | ⟨-, -, e⟩ | ⟨-, -, e⟩ <;> rw [e]

/-- R130, R203: under a strap with the clock the handler ticks it. -/
theorem service_ms_of_clockPresent (hk : clockPresent s.cfg.sink = true) : s.service.ms = s.msTick.ms := by
  rcases clockPresent_iff.mp hk with hk | hk
  · rw [service_msClock hk, State.msTick_ms]
  · rw [service_timedExec hk, execTick_ms]
    rfl

/-- R28: a `Service` step adds one to `MS`, and of the others only `Reset` and `MSC.INIT` write it. -/
theorem step_ms (h : step s = .next t) (hk : clockPresent s.cfg.sink = true) (hr : s.nextKind ≠ .reset)
    (hc : ∀ i, s.nextKind.command = some i → initsClock i = false) :
    t.ms.toNat = (s.ms.toNat + services [s.nextKind]) % 2 ^ 64 := by
  have keep (hn : s.nextKind ≠ .service) (ht : t.ms = s.ms) :
      t.ms.toNat = (s.ms.toNat + services [s.nextKind]) % 2 ^ 64 := by
    rw [services_eq_zero hn, Nat.add_zero, ht, Nat.mod_eq_of_lt s.ms.isLt]
  rcases step_fields h with ⟨hn, -⟩ | ⟨-, hn, ht⟩ | ⟨hn, ht⟩ | ⟨hn, ht⟩ | ⟨⟨w, hn⟩, ht⟩ | ⟨i, hi, -, ht⟩
  · exact absurd hn hr
  · rw [hn, services_service, ht.read State.ms, service_ms_of_clockPresent hk]
    exact msTick_toNat s
  · exact keep (by simp [hn]) ((ht.read State.ms).trans (cycle_ms s))
  · exact keep (by simp [hn]) (ht.read State.ms)
  · exact keep (by simp [hn]) (ht.read State.ms)
  · have hms : (effect s i).ms = s.ms := by simp [effect_ms, hc i hi]
    exact keep (fun hn => by simp [hn, StepKind.command] at hi) ((ht.read State.ms).trans hms)

/-- R136: MS after a run. -/
theorem Path.ms (h : Path s ks t) (hk : clockPresent s.cfg.sink = true) (hr : noReset ks)
    (hc : noCommand initsClock ks) : t.ms.toNat = (s.ms.toNat + services ks) % 2 ^ 64 := by
  induction h with
  | done s => exact (Nat.mod_eq_of_lt s.ms.isLt).symm
  | @cons s u t ks hs _ ih =>
    obtain ⟨hr1, hr2⟩ := noReset_cons.mp hr
    obtain ⟨hc1, hc2⟩ := List.forall_mem_cons.mp hc
    rw [ih (step_cfg hs ▸ hk) hr2 hc2, step_ms hs hk hr1 hc1, services_cons s.nextKind ks, Nat.mod_add_mod, Nat.add_assoc]

/-- Settles O50: `Path.ms`, and what `MSC.NOW` answers at either end. -/
theorem millisecondsCountServices : Obligations.MillisecondsCountServices := by
  intro s t ks hk hp hr hc
  obtain ⟨-, hnow⟩ := mscNowAnswersMsAndEnablesTheInterrupt
  exact ⟨hp.ms (clockPresent_iff.mpr hk) hr hc, hnow s hk, hnow t (hp.cfg ▸ hk)⟩

end Sys2Proof.Machine

/-! O52. The wait (R133, R135, R137): while it lasts only `Cycle` and `Service` steps are taken, and they keep
`DEADLINE`. -/

namespace Sys2Proof.Machine

variable {s t : State} {ks : List StepKind}

/-- R11 (b), R133: a step of a wait that neither abandons nor ends it. -/
theorem step_of_waiting (h : step s = .next t) (hw : s.waiting = true) (hr : s.nextKind ≠ .reset)
    (hd : s.nextKind ≠ .waitDone) :
    (s.nextKind = .cycle ∨ s.nextKind = .service) ∧ t.waiting = true ∧ t.deadline = s.deadline := by
  rcases step_effect h with ⟨hk, -⟩ | ⟨-, hk, rfl⟩ | ⟨-, hk, u, hu, rfl⟩ | ⟨-, -, hk, -⟩ | ⟨-, hw', -⟩
  · exact absurd hk hr
  · obtain ⟨-, hwaiting, hdeadline, -⟩ := service_frame (s.mark .service)
    exact ⟨.inr hk, hwaiting.trans hw, hdeadline⟩
  · obtain ⟨a, d, p, rfl⟩ := sameBlock_iff_withEnv.mp hu
    rw [cycle_eq]
    exact ⟨.inl hk, hw, rfl⟩
  · exact absurd hk hd
  · exact absurd hw (by simp [hw'])

/-- R137: a run of a wait. -/
theorem Path.of_waiting (h : Path s ks t) (hw : s.waiting = true) (hr : noReset ks) (hd : .waitDone ∉ ks) :
    (∀ k ∈ ks, k = .cycle ∨ k = .service) ∧ t.waiting = true ∧ t.deadline = s.deadline := by
  induction h with
  | done s => exact ⟨by simp, hw, rfl⟩
  | cons hs _ ih =>
    obtain ⟨hr1, hr2⟩ := noReset_cons.mp hr
    obtain ⟨hd1, hd2⟩ := List.ne_and_not_mem_of_not_mem_cons hd
    obtain ⟨hk, hu, hdeadline⟩ := step_of_waiting hs hw hr1 hd1.symm
    obtain ⟨hks, ht, hkeep⟩ := ih hu hr2 hd2
    exact ⟨List.forall_mem_cons.mpr ⟨hk, hks⟩, ht, hkeep.trans hdeadline⟩

/-- Settles O52: the run keeps the deadline `start + d`, and MS reaches it by `Service` steps alone. -/
theorem theWaitLaw : Obligations.TheWaitLaw := by
  intro d s0 s t ks _ hk hfits hwait hp hr hd
  have hk := clockPresent_iff.mpr hk
  obtain rfl := eq_effect_of_exec hwait hk
  obtain ⟨hks, ht, hdeadline⟩ := hp.of_waiting rfl hr hd
  have hcommand : noCommand initsClock ks := fun k hm i hi => by
    rcases hks k hm with rfl | rfl <;> simp [StepKind.command] at hi
  have he := enabled_nextKind t
  refine ⟨fun hn => ?_, fun w => ⟨fun hm => by simpa using hks _ hm, fun hn => ?_⟩⟩
  · rw [hn] at he
    obtain ⟨-, -, hle⟩ := he
    have hstart : (effect s0 (.mscWait d)).deadline.toNat = s0.ms.toNat + d :=
      (trunc_natCast_toNat 64 (s0.ms.toNat + d)).trans (Nat.mod_eq_of_lt hfits)
    have hms : t.ms.toNat = (s0.ms.toNat + services ks) % 2 ^ 64 := hp.ms hk hr hcommand
    rw [hdeadline, hstart] at hle
    have := hms.trans_le (Nat.mod_le _ _)
    exact ⟨hle, by omega⟩
  · rw [hn] at he
    obtain ⟨-, hw⟩ := he
    exact absurd ht (by simp [hw])

end Sys2Proof.Machine

/-! O29. `TEX.SETPERIOD` (R151), from its effect. -/

namespace Sys2Proof.Machine

/-- Settles O29: the operand is `ARG` whole, and below 2^32 it is stored whole. -/
theorem texSetPeriodRestartsTheCount : Obligations.TexSetPeriodRestartsTheCount := by
  refine ⟨fun w h => ?_, fun m s hm hk =>
    ⟨_, (trunc_natCast_toNat 32 m).trans (Nat.mod_eq_of_lt hm), exec_of_available (dispatcherPresent_iff.mpr hk)⟩⟩
  exact decode_of_opcode (i := .texSetPeriod 0) h

end Sys2Proof.Machine

/-! O53. The dispatcher after `TEX.SETPERIOD` (R150, R151, R153): the invariant `Dispatched k e n`, after `n` `Service`
steps. -/

namespace Sys2Proof.Machine

variable {s t : State} {ks : List StepKind} {i : Instr} {k e n : Nat}

/-- `XPERIOD` and `XCOUNT`, and how many callbacks have been invoked (R13). -/
def State.dispatcher (s : State) : U32 × U32 × Nat := (s.xperiod, s.xcount, s.emitted .execCb)

/-- R150: no command invokes the callback. -/
theorem effect_emitted_execCb (s : State) (i : Instr) : (effect s i).emitted .execCb = s.emitted .execCb := by
  cases i <;> rfl

theorem effect_keeps_dispatcher (s : State) (h : setsExecPeriod i = false) :
    (effect s i).dispatcher = s.dispatcher := by
  obtain ⟨hperiod, hcount⟩ := effect_dispatcher s h
  rw [State.dispatcher, hperiod, hcount, effect_emitted_execCb, State.dispatcher]

/-- R30, R31, R150: a step that neither resets nor runs `TEX.SETPERIOD` is a `Service` or leaves the dispatcher alone. -/
theorem step_dispatcher (h : step s = .next t) (hr : s.nextKind ≠ .reset)
    (hc : ∀ i, s.nextKind.command = some i → setsExecPeriod i = false) :
    (s.nextKind = .service ∧ t = (s.mark .service).service) ∨
      (s.nextKind ≠ .service ∧ t.dispatcher = s.dispatcher) := by
  rcases step_effect h with ⟨hn, -⟩ | ⟨-, hn, ht⟩ | ⟨-, hn, u, hu, rfl⟩ | ⟨-, -, hn, u, hu, rfl⟩ |
    ⟨-, -, w, u, hu, hn, hcmd⟩
  · exact absurd hn hr
  · exact .inl ⟨hn, ht⟩
  · exact .inr ⟨by simp [hn], by rw [cycle_eq, hu]; rfl⟩
  · exact .inr ⟨by simp [hn], by rw [hu]; rfl⟩
  · refine .inr ⟨by simp [hn], ?_⟩
    have hmark : (u.mark (.cmd w)).dispatcher = s.dispatcher := by rw [hu]; rfl
    rcases hcmd with ⟨i, hd, -, rfl⟩ | ⟨st, rfl⟩
    · exact (effect_keeps_dispatcher _ (hc i (hn ▸ command_cmd hd))).trans hmark
    · exact hmark

/-- R153: the dispatcher `n` `Service` steps after a `TEX.SETPERIOD k` before which `e` callbacks were invoked; for
`k = 0` the quotient `n / k` is 0. -/
structure Dispatched (k e n : Nat) (s : State) : Prop where
  xperiod : s.xperiod.toNat = k
  pinned : k = 0 → s.xcount = 0
  counts : 0 < k → s.xcount.toNat = n % k
  emitted : s.emitted .execCb = e + n / k

theorem Dispatched.congr (h : Dispatched k e n s) (ht : t.dispatcher = s.dispatcher) : Dispatched k e n t := by
  simp only [State.dispatcher, Prod.mk.injEq] at ht
  obtain ⟨hperiod, hcount, hemitted⟩ := ht
  exact ⟨hperiod ▸ h.xperiod, hcount ▸ h.pinned, hcount ▸ h.counts, hemitted ▸ h.emitted⟩

/-- R151: `TEX.SETPERIOD` restarts the count. -/
theorem Dispatched.of_texSetPeriod (s : State) (hk : k < 2 ^ 32) :
    Dispatched k (s.emitted .execCb) 0 (effect s (.texSetPeriod k)) where
  xperiod := (trunc_natCast_toNat 32 k).trans (Nat.mod_eq_of_lt hk)
  pinned _ := rfl
  counts _ := (Nat.zero_mod k).symm
  emitted := by rw [effect_emitted_execCb, Nat.zero_div, Nat.add_zero]

/-- R150: an enabled dispatcher's period is not 0, and its count does not wrap. -/
theorem Dispatched.enabled (h : Dispatched k e n s) (hx : s.xperiod ≠ 0) :
    0 < k ∧ (s.xcount + 1).toNat = n % k + 1 := by
  have hperiod := h.xperiod
  have hpos : 0 < k := by bv_omega
  have hcount := h.counts hpos
  have hlt := Nat.mod_lt n hpos
  exact ⟨hpos, by bv_omega⟩

/-- R150: the tick that fills the period invokes the callback and starts the next one. -/
theorem Dispatched.execTick (h : Dispatched k e n s) : Dispatched k e (n + 1) s.execTick := by
  have hdivision := Nat.div_add_mod n k
  rcases execTick_cases s with ⟨hx, htick⟩ | ⟨hx, hfull, htick⟩ | ⟨hx, hfull, htick⟩ <;> rw [htick]
  · obtain rfl : k = 0 := by rw [← h.xperiod, hx]; rfl
    exact ⟨h.xperiod, fun _ => rfl, fun hpos => absurd hpos (Nat.lt_irrefl 0), h.emitted.trans (by simp)⟩
  · obtain ⟨hpos, hnext⟩ := h.enabled hx
    have hlast : n % k + 1 = k := by rw [← hnext, hfull, h.xperiod]
    obtain ⟨hdiv, hmod⟩ : (n + 1) / k = n / k + 1 ∧ (n + 1) % k = 0 :=
      (Nat.div_mod_unique hpos).mpr ⟨by rw [Nat.mul_succ]; omega, hpos⟩
    refine ⟨h.xperiod, fun _ => rfl, fun _ => hmod.symm, ?_⟩
    rw [hdiv, ← Nat.add_assoc, ← h.emitted]
    exact List.count_cons_self
  · obtain ⟨hpos, hnext⟩ := h.enabled hx
    have hne : n % k + 1 ≠ k := fun hk => hfull (BitVec.eq_of_toNat_eq (by rw [hnext, hk, h.xperiod]))
    have hlt := Nat.mod_lt n hpos
    obtain ⟨hdiv, hmod⟩ : (n + 1) / k = n / k ∧ (n + 1) % k = n % k + 1 :=
      (Nat.div_mod_unique hpos).mpr ⟨by omega, by omega⟩
    exact ⟨h.xperiod, fun h0 => absurd h0 hpos.ne', fun _ => hmod ▸ hnext, hdiv ▸ h.emitted⟩

/-- R153: every step of the run keeps `Dispatched`, a `Service` counting one. -/
theorem Dispatched.step (h : Dispatched k e n s) (hs : step s = .next t) (hk : s.cfg.sink = .timedExec)
    (hr : s.nextKind ≠ .reset) (hc : ∀ i, s.nextKind.command = some i → setsExecPeriod i = false) :
    Dispatched k e (n + services [s.nextKind]) t := by
  rcases step_dispatcher hs hr hc with ⟨hn, rfl⟩ | ⟨hn, ht⟩
  · rw [hn, services_service, service_timedExec (s := s.mark .service) hk]
    exact (h.congr (t := (s.mark .service).clearFlag.msTick) rfl).execTick
  · rw [services_eq_zero hn, Nat.add_zero]
    exact h.congr ht

theorem Dispatched.path (h : Dispatched k e n s) (hp : Path s ks t) (hk : s.cfg.sink = .timedExec) (hr : noReset ks)
    (hc : noCommand setsExecPeriod ks) : Dispatched k e (n + services ks) t := by
  induction hp generalizing n with
  | done => exact h
  | @cons s u t ks hs _ ih =>
    obtain ⟨hr1, hr2⟩ := noReset_cons.mp hr
    obtain ⟨hc1, hc2⟩ := List.forall_mem_cons.mp hc
    rw [services_cons, ← Nat.add_assoc]
    exact ih (h.step hs hk hr1 hc1) (step_cfg hs ▸ hk) hr2 hc2

/-- Settles O53: `Dispatched` holds after `TEX.SETPERIOD` and is kept by every step. -/
theorem theDispatchLaw : Obligations.TheDispatchLaw := by
  intro k s0 s t ks hk hsink hset hp hr hc
  obtain rfl := eq_effect_of_exec hset (dispatcherPresent_iff.mpr hsink)
  have h := (Dispatched.of_texSetPeriod s0 hk).path hp hsink hr hc
  rw [Nat.zero_add] at h
  rw [effect_emitted_execCb]
  refine ⟨h.xperiod, fun h0 => ⟨?_, h.pinned h0⟩, fun hpos => ⟨h.emitted, h.counts hpos⟩⟩
  rw [h.emitted, h0, Nat.div_zero, Nat.add_zero]

end Sys2Proof.Machine

/-! O30, O31, O32, O56. The servo's commands (R161, R162, R163, R169): `SRV.INIT` from its effect, and the two setters
by the angle each leaves pending. -/

namespace Sys2Proof.Machine

variable {s : State} {a d v : Int}

/-- R163: the clamp at both bounds. -/
theorem clamp_eq_max_min {lo hi : Int} (h : lo ≤ hi) : clamp v lo hi = max lo (min v hi) := by
  unfold clamp
  split_ifs <;> omega

/-- R76: a word that spells a command runs it. -/
theorem runWord_of_decode {w : Word40} {i : Instr} (h : decode w = .ok i) : runWord w s = exec i s := by
  rw [runWord, h]

/-- R162: the clamp is at the upper bound alone. -/
theorem exec_srvSetAbs (hk : s.cfg.sink = .servo) : exec (.srvSetAbs a) s = .next (s.setPending (min a 180)) := by
  rw [← upperClamp_eq_min]
  exact exec_of_available (servoPresent_iff.mpr hk)

/-- R163: the clamp is at both bounds. -/
theorem exec_srvSetRel (hk : s.cfg.sink = .servo) :
    exec (.srvSetRel d) s = .next (s.setPending (max 0 (min (s.curPos.toInt + d) 180))) := by
  rw [← clamp_eq_max_min (by decide)]
  exact exec_of_available (servoPresent_iff.mpr hk)

/-- R162, R163: a pending angle that fits `s32` is stored and answered as it is, and nothing else changes. -/
theorem stores_of_eq_setPending {o : Result} (h : o = .next (s.setPending v)) (lo : -2 ^ 31 ≤ v) (hi : v < 2 ^ 31) :
    ∃ (x : S32) (r : U64), x.toInt = v ∧ r.toInt = x.toInt ∧
      o = .next { s with newPos := x, trace := s.answered .ok r } :=
  ⟨trunc 32 v, sext64 (trunc 32 v), trunc_toInt v lo hi, sext64_toInt _, h⟩

/-- R77: under another strap there is no servo. -/
theorem servoPresent_eq_false {k : Sink} (h : k ≠ .servo) : servoPresent k = false :=
  Bool.eq_false_iff.mpr (mt servoPresent_iff.mp h)

/-- Settles O30: the widths are `Pulse` of the centre, and `RELOAD` is `reloadFor` of the high one. -/
theorem srvInitStartsAtTheCentre : Obligations.SrvInitStartsAtTheCentre :=
  ⟨fun _ h => decode_of_opcode (i := .srvInit) h, fun s hk =>
    ⟨_, _, _, pulse_on_toNat s.cfg 90, pulse_off_toNat s.cfg 90, reloadFor_toNat _,
      exec_of_available (servoPresent_iff.mpr hk)⟩⟩

/-- Settles O31: the minimum with 180 fits `s32`. -/
theorem srvSetAbsClampsOnlyAbove : Obligations.SrvSetAbsClampsOnlyAbove := by
  refine ⟨fun w h => decode_of_opcode (i := .srvSetAbs 0) h, fun a s lo hi => ⟨fun hk => ?_, fun hk => ?_⟩⟩
  · exact exec_of_unavailable (servoPresent_eq_false hk)
  · exact stores_of_eq_setPending (exec_srvSetAbs hk) (by omega) (by omega)

/-- Settles O32: the clamped sum fits `s32`, whatever the operand. -/
theorem srvSetRelClampsTheExactSum : Obligations.SrvSetRelClampsTheExactSum := by
  refine ⟨fun w h => decode_of_opcode (i := .srvSetRel 0) h, fun d s => ⟨fun hk => ?_, fun hk => ?_⟩⟩
  · exact exec_of_unavailable (servoPresent_eq_false hk)
  · exact stores_of_eq_setPending (exec_srvSetRel hk) (by omega) (by omega)

/-- Settles O56: the operands are 200, 1000 and -1000, and the sums with `CUR_POS` are compared with 0 and 180. -/
theorem anglesSaturate : Obligations.AnglesSaturate := by
  intro s hk
  have h200 : runWord 0x31000000C8 s = .next (s.setPending (min 200 180)) :=
    (runWord_of_decode rfl).trans (exec_srvSetAbs hk)
  have hup : runWord 0x32000003E8 s = .next (s.setPending (max 0 (min (s.curPos.toInt + 1000) 180))) :=
    (runWord_of_decode rfl).trans (exec_srvSetRel hk)
  have hdown : runWord 0x32FFFFFC18 s = .next (s.setPending (max 0 (min (s.curPos.toInt + -1000) 180))) :=
    (runWord_of_decode rfl).trans (exec_srvSetRel hk)
  refine ⟨h200, fun hpos => ?_, fun hpos => ?_, fun hpos => ?_⟩
  · have hsum : max 0 (min (s.curPos.toInt + 1000) 180) = 180 := by omega
    rw [hup, hsum]
    rfl
  · obtain ⟨x, r, hx, hr, hrun⟩ := stores_of_eq_setPending hup (by omega) (by omega)
    exact ⟨x, r, by omega, hr, hrun⟩
  · have hsum : max 0 (min (s.curPos.toInt + -1000) 180) = 0 := by omega
    rw [hdown, hsum]
    rfl

end Sys2Proof.Machine

/-! O43. Between two `Service` steps there is a `Cycle` (R205): a `Service` leaves `FLAG` = 0, only a `Cycle` sets it
(R26), and while it is 0 no `Service` is enabled. -/

namespace Sys2Proof.Machine

variable {s t : State} {k : StepKind} {ks : List StepKind}

/-- R9: the first step of a run. -/
theorem Path.cons_iff : Path s (k :: ks) t ↔ ∃ u, step s = .next u ∧ s.nextKind = k ∧ Path u ks t := by
  refine ⟨fun h => ?_, fun ⟨u, hs, hk, hp⟩ => hk ▸ .cons hs hp⟩
  generalize hl : k :: ks = l at h
  cases h with
  | done => simp at hl
  | cons hs hp =>
    obtain ⟨rfl, rfl⟩ := List.cons.inj hl
    exact ⟨_, hs, rfl, hp⟩

/-- R203: the state after a step that is a `Service`. -/
theorem eq_service_of_step (h : step s = .next t) (hk : s.nextKind = .service) : t = (s.mark .service).service := by
  have hi : Enabled s .service := hk ▸ enabled_nextKind s
  have ha : ∀ rest, s.agenda ≠ .resetAtOnce :: rest := fun rest ha =>
    StepKind.noConfusion (hk.symm.trans (nextKind_of_schedule (schedule_resetAtOnce_head ha)))
  exact Host.Outcome.next.inj (h.symm.trans (step_service hi ha).2)

/-- R26: a step that is no `Cycle` does not set the flag. -/
theorem step_flag_off (h : step s = .next t) (hf : s.flag = false) (hk : s.nextKind ≠ .cycle) : t.flag = false := by
  obtain ⟨hc, -⟩ | ⟨-, ht | ⟨ht, -⟩⟩ := step_flag h
  · exact absurd hc hk
  · exact ht.trans hf
  · exact ht

/-- R205: a `Service` that ends a run from `FLAG` = 0 comes after a `Cycle`. -/
theorem Path.cycle_mem_of_flag_off (hf : s.flag = false) (h : Path s (ks ++ [.service]) t) : .cycle ∈ ks := by
  induction ks generalizing s with
  | nil =>
    obtain ⟨-, -, hk, -⟩ := Path.cons_iff.mp h
    exact absurd hk (nextKind_ne_service (by simp [State.irq, hf]))
  | cons k ks ih =>
    obtain ⟨u, hs, rfl, hp⟩ := Path.cons_iff.mp h
    by_cases hk : s.nextKind = .cycle
    · exact hk ▸ List.mem_cons_self
    · exact List.mem_cons_of_mem _ (ih (step_flag_off hs hf hk) hp)

/-- Settles O43: the first `Service` clears `FLAG`, which then needs a `Cycle`; `IE` is in the frame of `Service`. -/
theorem twoServicesHaveACycleBetween : Obligations.TwoServicesHaveACycleBetween := by
  refine ⟨fun s t ks h => ?_, fun s t h hk => ?_⟩
  · obtain ⟨u, hs, hk, hp⟩ := Path.cons_iff.mp h
    obtain rfl := eq_service_of_step hs hk
    exact hp.cycle_mem_of_flag_off (service_flag _)
  · obtain rfl := eq_service_of_step h hk
    obtain ⟨hie, -⟩ := service_frame (s.mark .service)
    exact ⟨service_irq _, hie, nextKind_ne_service (service_irq _)⟩

end Sys2Proof.Machine

/-! O7, O8. The two refusals (R210): a word that spells no command (R211), and a command of a sink that the strap does
not have (R212). -/

namespace Sys2Proof.Machine

variable {s : State} {k : Sink}

/-- R211: a word that spells no command is answered. -/
theorem runWord_of_decode_error {w : Word40} {e : DecodeError} (h : decode w = .error e) :
    runWord w s = .next s.illegalOpcode := by
  rw [runWord, h]

/-- Settles O7: the word at the head is scheduled, and its opcode is none of the sixteen. -/
theorem illegalOpcodeIsAnsweredAndChangesNothing : Obligations.IllegalOpcodeIsAnsweredAndChangesNothing := by
  intro s w rest ha hi hw hop
  obtain ⟨-, hillegal⟩ := sixteenOpcodesAndNoOther w
  exact (step_of_schedule (schedule_cmd_head ha hi hw)).trans (runWord_of_decode_error (hillegal hop))

/-- R77: the straps without the clock. -/
theorem clockPresent_eq_false_iff : clockPresent k = false ↔ k = .none ∨ k = .servo := by cases k <;> decide

/-- R77: the straps without the dispatcher. -/
theorem dispatcherPresent_eq_false_iff : dispatcherPresent k = false ↔ k = .none ∨ k = .msClock ∨ k = .servo := by
  cases k <;> decide

/-- Settles O8: under each strap listed the unit of the command is absent. -/
theorem absentSinkIsAnsweredAndChangesNothing : Obligations.AbsentSinkIsAnsweredAndChangesNothing := by
  refine fun s => ⟨fun hk => ?_, fun hk => ?_, fun hk => ?_⟩
  · have hclock := clockPresent_eq_false_iff.mpr hk
    exact ⟨fun _ => exec_of_unavailable hclock, exec_of_unavailable hclock, fun _ => exec_of_unavailable hclock⟩
  · exact fun _ => exec_of_unavailable (dispatcherPresent_eq_false_iff.mpr hk)
  · have hservo : servoPresent s.cfg.sink = false := servoPresent_eq_false fun h => by simp [h] at hk
    exact ⟨exec_of_unavailable hservo, fun _ => exec_of_unavailable hservo, fun _ => exec_of_unavailable hservo⟩

end Sys2Proof.Machine
